-- ==== Sys2Proof/Word.lean ====
section
/-! DEFINITION. The words of the CORE: the widths of 00_scope.md R8 and R15. -/

namespace Sys2Proof

/-- `u32`: command words, frames, phases, increments, levels (R8, R15). -/
abbrev Word := BitVec 32

/-- `u8`: channels and instrument indexes (10_state.md R21, R27). -/
abbrev Byte := BitVec 8

/-- 16-bit values: gains (`u16`), the volume, and one output sample (`s16`) (R15). -/
abbrev Half := BitVec 16

/-- `u7`: a MIDI note number (10_state.md R21). -/
abbrev Note := BitVec 7

/-- `u9`: the advertised polyphony ceiling, up to 256 (10_state.md R27). -/
abbrev Count := BitVec 9

end Sys2Proof
end

