-- ==== Sys2Proof/Syntax.lean ====
section
/-! DEFINITION. The commands of the CORE (30_encoding.md R72) and the reasons a command is ignored
(60_exceptions.md R191). -/

namespace Sys2Proof

/-- One constructor per row of spec/opcode_table.json. Operands are unsigned integers
(30_encoding.md R71); the ranges they fit are checked in WellFormed (log 12). -/
inductive Instr where
  /-- `NOP` (45_control_commands.md R170) -/
  | nop
  /-- `NOTE_ON ch, note, vel` (41_voice_pool.md R103) -/
  | noteOn (ch note vel : Nat)
  /-- `NOTE_OFF ch, note` (41_voice_pool.md R108) -/
  | noteOff (ch note : Nat)
  /-- `ALL_NOTES_OFF` (41_voice_pool.md R110) -/
  | allNotesOff
  /-- `SET_INSTRUMENT ch, idx` (45_control_commands.md R172) -/
  | setInstrument (ch idx : Nat)
  /-- `SET_VOLUME pct` (45_control_commands.md R174) -/
  | setVolume (pct : Nat)
  /-- `ALTER_VOL ch, vel` (45_control_commands.md R176) -/
  | alterVol (ch vel : Nat)
  /-- `ALTER_PITCH ch, bend` (45_control_commands.md R177) -/
  | alterPitch (ch bend : Nat)
  /-- `SET_MAX_NOTES n` (45_control_commands.md R180) -/
  | setMaxNotes (n : Nat)
deriving DecidableEq, Repr

/-- Why a command has no effect (60_exceptions.md R191). The names are the spec's; no register
records them and no port shows them. -/
inductive IgnoreReason where
  /-- OP in 0x9..0xF -/
  | reservedOpcode
  /-- a reserved-zero bit of the opcode's row is 1 -/
  | reservedBits
  /-- `ch >= NV` -/
  | channelRange
  /-- `idx >= NI` -/
  | instrumentRange
deriving DecidableEq, Repr

end Sys2Proof
end

