-- ==== Sys2Proof/WellFormed.lean ====
section
/-! DEFINITION. The instructions that have an encoding: every operand fits its field
(30_encoding.md R71). This is what an assembler checks, and no more: a channel or an instrument that
fits its field but is out of range for the configuration is well formed (R77). -/

namespace Sys2Proof

/-- An 8-bit operand field: `ch`, `idx`, `n` (R71). -/
def fitsByte (x : Nat) : Bool := decide (x < 256)

/-- A 7-bit operand field: `note`, `vel`, `pct`, `bend` (R71). -/
def fitsSeven (x : Nat) : Bool := decide (x < 128)

/-- Every operand fits its field (R71, R77). -/
def Instr.wf : Instr → Bool
  | .nop => true
  | .noteOn ch note vel => fitsByte ch && fitsSeven note && fitsSeven vel
  | .noteOff ch note => fitsByte ch && fitsSeven note
  | .allNotesOff => true
  | .setInstrument ch idx => fitsByte ch && fitsByte idx
  | .setVolume pct => fitsSeven pct
  | .alterVol ch vel => fitsByte ch && fitsSeven vel
  | .alterPitch ch bend => fitsByte ch && fitsSeven bend
  | .setMaxNotes n => fitsByte n

/-- The check as a proposition. -/
abbrev Instr.WellFormed (i : Instr) : Prop := i.wf = true

end Sys2Proof
end

