-- ==== Sys2Proof/Decode.lean ====
section
/-! DEFINITION. Decoding a command word (30_encoding.md R70-R74, R80), and after it the encoder. -/

namespace Sys2Proof

/-- `w[hi:lo]`, zero-extended (00_scope.md R8). -/
def field (w : Word) (hi lo : Nat) : Nat := w.toNat / 2 ^ lo % 2 ^ (hi + 1 - lo)

/-- The match and mask of an opcode's row (R73); no row for 0x9..0xF. -/
def encodingRow : Nat → Option (Word × Word)
  | 0x0 => some (0x00000000, 0xFFFFFFFF)
  | 0x1 => some (0x10000000, 0xFF008080)
  | 0x2 => some (0x20000000, 0xFF0080FF)
  | 0x3 => some (0x30000000, 0xFFFFFFFF)
  | 0x4 => some (0x40000000, 0xFF0000FF)
  | 0x5 => some (0x50000000, 0xFFFF80FF)
  | 0x6 => some (0x60000000, 0xFF0080FF)
  | 0x7 => some (0x70000000, 0xFF0080FF)
  | 0x8 => some (0x80000000, 0xFFFF00FF)
  | _ => none

/-- The instruction of a word whose reserved bits are zero, by its opcode (R80). -/
def operandsOf (op : Nat) (w : Word) : Except IgnoreReason Instr :=
  let ch := field w 23 16
  let b7 := field w 14 8
  let b8 := field w 15 8
  let c7 := field w 6 0
  match op with
  | 0x0 => .ok .nop
  | 0x1 => .ok (.noteOn ch b7 c7)
  | 0x2 => .ok (.noteOff ch b7)
  | 0x3 => .ok .allNotesOff
  | 0x4 => .ok (.setInstrument ch b8)
  | 0x5 => .ok (.setVolume b7)
  | 0x6 => .ok (.alterVol ch b7)
  | 0x7 => .ok (.alterPitch ch b7)
  | 0x8 => .ok (.setMaxNotes b8)
  | _ => .error .reservedOpcode

/-- The decoding half of `ExecCmd` (R80): an instruction, or the name of the reason the word is
ignored (R74). Total on every word. -/
def decode (w : Word) : Except IgnoreReason Instr :=
  let op := field w 31 28
  match encodingRow op with
  | none => .error .reservedOpcode
  | some (pattern, mask) =>
    if w &&& mask = pattern then operandsOf op w else .error .reservedBits

/-- The opcode of an instruction (R72). -/
def Instr.opcode : Instr → Nat
  | .nop => 0x0
  | .noteOn .. => 0x1
  | .noteOff .. => 0x2
  | .allNotesOff => 0x3
  | .setInstrument .. => 0x4
  | .setVolume .. => 0x5
  | .alterVol .. => 0x6
  | .alterPitch .. => 0x7
  | .setMaxNotes .. => 0x8

/-- A word from its opcode and its operand bytes A, B, C, with `RSV` zero (R70). -/
def commandWord (op a b c : Nat) : Word := BitVec.ofNat 32 (op * 2 ^ 28 + a * 2 ^ 16 + b * 2 ^ 8 + c)

/-- The word of a well-formed instruction: the operand placement of R72 and R73. -/
def encode (i : Instr) : Word :=
  match i with
  | .nop => commandWord 0x0 0 0 0
  | .noteOn ch note vel => commandWord 0x1 ch note vel
  | .noteOff ch note => commandWord 0x2 ch note 0
  | .allNotesOff => commandWord 0x3 0 0 0
  | .setInstrument ch idx => commandWord 0x4 ch idx 0
  | .setVolume pct => commandWord 0x5 0 pct 0
  | .alterVol ch vel => commandWord 0x6 ch vel 0
  | .alterPitch ch bend => commandWord 0x7 ch bend 0
  | .setMaxNotes n => commandWord 0x8 0 n 0

/-- The low `nbits` bits of `w` as one command word. The CORE moves whole 32-bit words only, with no
byte order inside it (20_memory.md R62), so a word's bits are the table's bits. -/
def tableWord (nbits w : Nat) : Word := BitVec.ofNat 32 (w % 2 ^ nbits)

/-- The instruction the decoder reads from a word numbered as spec/opcode_table.json numbers it. -/
def decodeTableWord (nbits w : Nat) : Option Instr := (decode (tableWord nbits w)).toOption

end Sys2Proof
end

