-- ==== Sys2Proof/Config.lean ====
section
/-! DEFINITION. The implementation parameters of 00_scope.md R7 and the instrument record of
20_memory.md R55, with what a read outside a table answers (log 7). -/

namespace Sys2Proof

/-- One instrument ROM entry (20_memory.md R55). `fmAmpEnd` and `fmDecay` are held and read by no
rule (93 I4, I5). -/
structure Instrument where
  /-- base gain, 1.0 = 32768 -/
  loudness : Half
  /-- signed, in 1/64 semitone -/
  pitchOffset : Half
  attackRate : Word
  decayRate : Word
  sustain : Word
  releaseRate : Word
  /-- Q8.8 modulator-to-carrier ratio -/
  fmMult : Half
  fmAmpStart : Word
  fmAmpEnd : Word
  fmDecay : Word
deriving DecidableEq, Repr, Inhabited

/-- The parameters a model of the CORE takes (00_scope.md R7). `NI` is the length of `bank`
(log 14). -/
structure Config where
  /-- `NV`: the number of voices, and of channels -/
  nv : Nat
  /-- `BANK`: the instrument ROM, `NI` entries -/
  bank : List Instrument
  /-- `FS`: the sample rate in Hz; the CORE never reads it -/
  fs : Nat
  /-- `A440_INC`: the phase increment of 440 Hz -/
  a440Inc : Word
  /-- `VOL_RESET` -/
  volReset : Half
  /-- `MAP_RESET` -/
  mapReset : Byte
deriving DecidableEq, Repr

/-- `NI` (00_scope.md R7). -/
def Config.ni (c : Config) : Nat := c.bank.length

/-- The legal ranges of 00_scope.md R7. -/
abbrev Config.Legal (c : Config) : Prop :=
  1 ≤ c.nv ∧ c.nv ≤ 256 ∧ 1 ≤ c.ni ∧ c.ni ≤ 256 ∧ 0 < c.fs ∧ 1 ≤ c.a440Inc.toNat ∧
    c.volReset.toNat ≤ 32768 ∧ c.mapReset.toNat < c.ni

/-- What a read of `BANK` at an index `≥ NI` answers. No reachable state makes such a read
(20_memory.md R58); nothing constrains the value. DESIGN CHOICE, safe: log 7. -/
opaque Config.bankHole : Nat → Instrument

/-- What a read of `MAP` at a channel `≥ NV` answers. No reachable state makes such a read
(10_state.md R24); nothing constrains the value. DESIGN CHOICE, safe: log 7. -/
opaque Config.mapHole : Nat → Byte

end Sys2Proof
end

