-- ==== Sys2Proof/Machine/Example.lean ====
section
/-! DEFINITION. The configuration of the spec's own examples: the "example value" column of
00_scope.md R7 and the BANK of 95_test_vectors.md part 0. It is "not a statement about any built
part" (R7); `State.reset` uses it (DESIGN CHOICE, unsafe for a claim about that one state: log 3). -/

namespace Sys2Proof.Machine

/-- Entry 0, "scenario": the §8 instrument. -/
def bankScenario : Instrument :=
  { loudness := 32768, pitchOffset := 0, attackRate := 486958, decayRate := 81160,
    sustain := 644245094, releaseRate := 48696, fmMult := 512, fmAmpStart := 1000000,
    fmAmpEnd := 0, fmDecay := 0 }

/-- Entry 1, "one-shot": zero sustain. -/
def bankOneShot : Instrument :=
  { loudness := 32768, pitchOffset := 0, attackRate := 0, decayRate := 2434789, sustain := 0,
    releaseRate := 0, fmMult := 256, fmAmpStart := 0, fmAmpEnd := 0, fmDecay := 0 }

/-- Entry 2, "organ": full sustain, all times zero. -/
def bankOrgan : Instrument :=
  { loudness := 32768, pitchOffset := 0, attackRate := 0, decayRate := 0, sustain := 1073741824,
    releaseRate := 0, fmMult := 256, fmAmpStart := 0, fmAmpEnd := 0, fmDecay := 0 }

/-- Entry 3, "detune": pitch offset −32. -/
def bankDetune : Instrument :=
  { loudness := 16384, pitchOffset := 0xFFE0, attackRate := 0, decayRate := 0,
    sustain := 1073741824, releaseRate := 536870912, fmMult := 384, fmAmpStart := 500000,
    fmAmpEnd := 0, fmDecay := 0 }

/-- NV = 4, NI = 4, FS = 44100, A440_INC = 42852281, VOL_RESET = 32768, MAP_RESET = 0. -/
def exampleConfig : Config :=
  { nv := 4, bank := [bankScenario, bankOneShot, bankOrgan, bankDetune], fs := 44100,
    a440Inc := 42852281, volReset := 32768, mapReset := 0 }

end Sys2Proof.Machine
end

