-- ==== Sys2Proof/Machine/State.lean ====
section
/-! DEFINITION. The state of the CORE (10_state.md), its input events (00_scope.md R11) and its state
after reset (10_state.md R37). -/

namespace Sys2Proof

/-- What the outside world can do (00_scope.md R11, 10_state.md R32): one command word at the control
port, one sample strobe, or the reset port. -/
inductive Event where
  /-- `Cmd(w)`: one command word accepted at the control port -/
  | cmd (w : Word)
  /-- `Tick`: one sample strobe -/
  | tick
  /-- `rst` asserted, between events (70_reset_and_hazards.md R210) -/
  | rst
deriving DecidableEq, Repr

namespace Machine

/-- The envelope states (10_state.md R22; log 9). -/
inductive EnvState where
  | idle
  | attack
  | decay
  | sustain
  | release
deriving DecidableEq, Repr

/-- One voice record (10_state.md R21). -/
structure Voice where
  /-- carrier phase increment per Tick -/
  carInc : Word
  /-- modulator phase increment per Tick -/
  modInc : Word
  /-- peak carrier-increment deviation -/
  modDepth : Word
  /-- voice gain, 1.0 = 32768 -/
  amp : Half
  /-- carrier phase, in 1/2^32 cycle -/
  phase : Word
  /-- modulator phase, in 1/2^32 cycle -/
  modPhase : Word
  /-- envelope output, ONE = 2^30 -/
  level : Word
  state : EnvState
  active : Bool
  /-- Ticks since note-on, saturating -/
  time : Word
  note : Note
  channel : Byte
deriving DecidableEq, Repr

/-- A voice after reset: all fields 0, Idle, inactive (10_state.md R37). -/
def Voice.inert : Voice :=
  { carInc := 0, modInc := 0, modDepth := 0, amp := 0, phase := 0, modPhase := 0, level := 0,
    state := .idle, active := false, time := 0, note := 0, channel := 0 }

/-- The whole state. `voices`, `map`, `vol`, `maxn` and `frame` are the spec's (10_state.md, its first
block); `cfg`, `input` and `output` are the model's own fields (logs 1, 2, 4). -/
structure State where
  /-- the parameters of 00_scope.md R7; no step writes them -/
  cfg : Config
  /-- `V`: the voice pool, `NV` records (R20) -/
  voices : List Voice
  /-- `MAP`: the channel-to-instrument map, `NV` entries (R29) -/
  map : List Byte
  /-- `VOL`: global volume, Q1.15 (R28) -/
  vol : Half
  /-- `MAXN`: the advertised polyphony ceiling (R30) -/
  maxn : Count
  /-- `FRAME`: the last frame a Tick produced (R31) -/
  frame : Word
  /-- the events still to come, in the total order of R12 -/
  input : List Event
  /-- the frames returned by Ticks so far, oldest first (R11, R14) -/
  output : List Word
deriving DecidableEq, Repr

/-- Why the machine would stop with a fault. The CORE has none: "The CORE raises no exception and
takes no trap" (60_exceptions.md R190), so the type is empty (log 8). -/
inductive Fault where
deriving DecidableEq, Repr

/-- Why a step would be refused. -/
inductive Refusal where
  /-- Raised by `exec`'s arm of an instruction that has no meaning yet; safe. No arm raises it. -/
  | notModelled (mnemonic : String)
deriving DecidableEq, Repr

/-- What a step or a meaning answers. -/
abbrev Outcome := Host.Outcome State Fault Refusal

/-- The state after reset under a configuration (10_state.md R37), with no event pending and no frame
returned yet (logs 1, 4). -/
def State.resetOf (cfg : Config) : State :=
  { cfg := cfg
    voices := List.replicate cfg.nv Voice.inert
    map := List.replicate cfg.nv cfg.mapReset
    vol := cfg.volReset
    maxn := BitVec.ofNat 9 cfg.nv
    frame := 0
    input := []
    output := [] }

/-- The state after reset under the spec's example configuration (95_test_vectors.md part 0;
log 3). -/
def State.reset : State := State.resetOf exampleConfig

end Machine

end Sys2Proof
end

