-- ==== Sys2Proof/Machine/Flags.lean ====
section
/-! DEFINITION. The per-voice `active` bit and `state` enum, the CORE's only flags
(10_state.md R26), and the numbers R22 gives the states. -/

namespace Sys2Proof.Machine

/-- The numeric value of an envelope state (10_state.md R22); no port shows it. -/
def EnvState.code : EnvState → BitVec 3
  | .idle => 0
  | .attack => 1
  | .decay => 2
  | .sustain => 3
  | .release => 4

/-- NOTE_OFF's write: `state <- Release`; the level and `active` are not written
(41_voice_pool.md R108). -/
def Voice.toRelease (v : Voice) : Voice := { v with state := .release }

/-- ALL_NOTES_OFF's writes to one voice (41_voice_pool.md R110). -/
def Voice.silence (v : Voice) : Voice :=
  { v with active := false, state := .idle, level := 0, time := 0, note := 0, channel := 0 }

/-- The end of a Release: `level <- 0`, `state <- Idle`, `active <- 0` (42_envelope.md R126). -/
def Voice.toIdle (v : Voice) : Voice := { v with level := 0, state := .idle, active := false }

/-- An active voice on channel `ch` (45_control_commands.md R176, R177). -/
def Voice.soundsOn (ch : Nat) (v : Voice) : Bool := v.active && v.channel.toNat == ch

/-- An active voice on channel `ch` playing `note` (41_voice_pool.md R108). -/
def Voice.plays (ch note : Nat) (v : Voice) : Bool := v.soundsOn ch && v.note.toNat == note

end Sys2Proof.Machine
end

