-- ==== Sys2Proof/Machine/Arith.lean ====
section
/-! DEFINITION. The arithmetic primitives of 00_scope.md R8. Intermediate values are unbounded
integers; a width is reduced only where a rule says so. `floor(a / b)` for `b > 0` is `a / b`, on
`Nat` and on `Int`. -/

namespace Sys2Proof.Machine

/-- `trunc0(a / b)`: division rounding toward zero (R8). -/
def trunc0 (a b : Int) : Int := a.tdiv b

/-- `ceil(a / b)` on naturals (R8). -/
def ceilDiv (a b : Nat) : Nat := (a + (b - 1)) / b

/-- `clamp(x, lo, hi)` on integers (R8). -/
def clampInt (x lo hi : Int) : Int := min (max x lo) hi

/-- `clamp(x, lo, hi)` on naturals (R8). -/
def clampNat (x lo hi : Nat) : Nat := min (max x lo) hi

/-- `sat32(x)` (R8). -/
def sat32 (x : Nat) : Nat := min x (2 ^ 32 - 1)

/-- `hi ++ lo`: concatenation with `hi` in the high part (R8). -/
def wordOfHalves (hi lo : Half) : Word := (hi ++ lo : BitVec (16 + 16))

/-- `round_half_up(x)` = `floor(x + 1/2)`, on rationals (R8). -/
def roundHalfUp (x : Rat) : Int := (x + 1 / 2).floor

end Sys2Proof.Machine
end

