-- ==== Sys2Proof/Machine/FreqRom.lean ====
section
/-! DEFINITION. The frequency ROM (20_memory.md R53): `round_half_up(2^31 * 2^(k/768))`, one octave
in 768 steps of 1/64 semitone (log 11). -/

namespace Sys2Proof.Machine

/-- Rows 0..7 of `freqTable`. -/
def freqTablePart0 : List (List Nat) :=
  [[2147483648, 2149422703, 2151363509, 2153306067, 2155250379, 2157196447, 2159144272, 2161093856, 2163045200, 2164998306, 2166953175, 2168909810, 2170868212, 2172828382, 2174790321, 2176754033],
   [2178719517, 2180686776, 2182655811, 2184626625, 2186599218, 2188573592, 2190549748, 2192527690, 2194507417, 2196488931, 2198472235, 2200457330, 2202444217, 2204432898, 2206423375, 2208415649],
   [2210409722, 2212405596, 2214403271, 2216402751, 2218404036, 2220407128, 2222412028, 2224418739, 2226427262, 2228437599, 2230449750, 2232463719, 2234479506, 2236497113, 2238516542, 2240537794],
   [2242560872, 2244585776, 2246612509, 2248641071, 2250671465, 2252703693, 2254737756, 2256773655, 2258811392, 2260850970, 2262892389, 2264935651, 2266980759, 2269027713, 2271076515, 2273127167],
   [2275179671, 2277234028, 2279290240, 2281348309, 2283408236, 2285470023, 2287533671, 2289599183, 2291666561, 2293735804, 2295806917, 2297879899, 2299954753, 2302031481, 2304110083, 2306190563],
   [2308272921, 2310357160, 2312443280, 2314531284, 2316621173, 2318712950, 2320806615, 2322902170, 2324999618, 2327098960, 2329200197, 2331303332, 2333408365, 2335515300, 2337624136, 2339734877],
   [2341847524, 2343962078, 2346078542, 2348196917, 2350317204, 2352439406, 2354563524, 2356689561, 2358817516, 2360947394, 2363079194, 2365212920, 2367348571, 2369486152, 2371625662, 2373767105],
   [2375910481, 2378055792, 2380203040, 2382352227, 2384503355, 2386656425, 2388811439, 2390968400, 2393127307, 2395288164, 2397450973, 2399615734, 2401782449, 2403951122, 2406121752, 2408294342]]

/-- Rows 8..15 of `freqTable`. -/
def freqTablePart1 : List (List Nat) :=
  [[2410468894, 2412645410, 2414823891, 2417004338, 2419186755, 2421371142, 2423557502, 2425745836, 2427936146, 2430128433, 2432322700, 2434518948, 2436717180, 2438917396, 2441119599, 2443323790],
   [2445529972, 2447738145, 2449948313, 2452160476, 2454374637, 2456590797, 2458808958, 2461029121, 2463251290, 2465475465, 2467701648, 2469929842, 2472160047, 2474392266, 2476626501, 2478862753],
   [2481101024, 2483341317, 2485583632, 2487827972, 2490074338, 2492322733, 2494573157, 2496825614, 2499080105, 2501336631, 2503595195, 2505855799, 2508118443, 2510383130, 2512649863, 2514918642],
   [2517189470, 2519462348, 2521737278, 2524014263, 2526293303, 2528574401, 2530857560, 2533142779, 2535430062, 2537719410, 2540010826, 2542304310, 2544599866, 2546897494, 2549197197, 2551498976],
   [2553802834, 2556108771, 2558416791, 2560726895, 2563039085, 2565353363, 2567669730, 2569988189, 2572308742, 2574631389, 2576956134, 2579282978, 2581611923, 2583942971, 2586276124, 2588611383],
   [2590948751, 2593288230, 2595629821, 2597973526, 2600319347, 2602667287, 2605017347, 2607369528, 2609723834, 2612080265, 2614438824, 2616799513, 2619162333, 2621527287, 2623894376, 2626263603],
   [2628634969, 2631008476, 2633384126, 2635761921, 2638141863, 2640523954, 2642908196, 2645294591, 2647683141, 2650073848, 2652466713, 2654861738, 2657258927, 2659658279, 2662059799, 2664463486],
   [2666869345, 2669277375, 2671687580, 2674099961, 2676514520, 2678931260, 2681350181, 2683771287, 2686194579, 2688620059, 2691047729, 2693477592, 2695909648, 2698343900, 2700780350, 2703219000]]

/-- Rows 16..23 of `freqTable`. -/
def freqTablePart2 : List (List Nat) :=
  [[2705659852, 2708102909, 2710548171, 2712995640, 2715445320, 2717897212, 2720351318, 2722807639, 2725266179, 2727726939, 2730189920, 2732655125, 2735122557, 2737592216, 2740064105, 2742538226],
   [2745014581, 2747493172, 2749974002, 2752457071, 2754942382, 2757429937, 2759919739, 2762411789, 2764906088, 2767402640, 2769901447, 2772402509, 2774905830, 2777411411, 2779919255, 2782429363],
   [2784941738, 2787456381, 2789973294, 2792492481, 2795013942, 2797537679, 2800063696, 2802591993, 2805122574, 2807655439, 2810190591, 2812728032, 2815267765, 2817809791, 2820354112, 2822900730],
   [2825449648, 2828000867, 2830554390, 2833110219, 2835668356, 2838228802, 2840791560, 2843356633, 2845924021, 2848493728, 2851065754, 2853640104, 2856216777, 2858795778, 2861377107, 2863960767],
   [2866546760, 2869135087, 2871725752, 2874318756, 2876914102, 2879511791, 2882111825, 2884714207, 2887318939, 2889926023, 2892535461, 2895147255, 2897761407, 2900377920, 2902996795, 2905618035],
   [2908241642, 2910867618, 2913495965, 2916126685, 2918759781, 2921395254, 2924033107, 2926673341, 2929315960, 2931960965, 2934608358, 2937258141, 2939910317, 2942564888, 2945221856, 2947881223],
   [2950542991, 2953207163, 2955873740, 2958542725, 2961214119, 2963887926, 2966564148, 2969242785, 2971923842, 2974607319, 2977293219, 2979981545, 2982672298, 2985365480, 2988061094, 2990759143],
   [2993459627, 2996162550, 2998867913, 3001575719, 3004285971, 3006998669, 3009713817, 3012431416, 3015151470, 3017873979, 3020598946, 3023326374, 3026056265, 3028788621, 3031523444, 3034260736]]

/-- Rows 24..31 of `freqTable`. -/
def freqTablePart3 : List (List Nat) :=
  [[3037000500, 3039742738, 3042487452, 3045234644, 3047984316, 3050736472, 3053491112, 3056248240, 3059007858, 3061769967, 3064534570, 3067301669, 3070071267, 3072843366, 3075617968, 3078395075],
   [3081174689, 3083956814, 3086741451, 3089528602, 3092318269, 3095110456, 3097905163, 3100702394, 3103502151, 3106304436, 3109109252, 3111916599, 3114726482, 3117538902, 3120353861, 3123171362],
   [3125991407, 3128813999, 3131639139, 3134466830, 3137297074, 3140129874, 3142965232, 3145803149, 3148643630, 3151486675, 3154332287, 3157180469, 3160031222, 3162884549, 3165740453, 3168598936],
   [3171459999, 3174323646, 3177189879, 3180058700, 3182930111, 3185804115, 3188680714, 3191559910, 3194441706, 3197326104, 3200213107, 3203102716, 3205994934, 3208889765, 3211787208, 3214687269],
   [3217589947, 3220495247, 3223403170, 3226313719, 3229226895, 3232142703, 3235061143, 3237982218, 3240905930, 3243832283, 3246761278, 3249692918, 3252627205, 3255564141, 3258503729, 3261445972],
   [3264390871, 3267338429, 3270288649, 3273241532, 3276197082, 3279155301, 3282116190, 3285079754, 3288045993, 3291014910, 3293986508, 3296960790, 3299937757, 3302917412, 3305899757, 3308884796],
   [3311872529, 3314862961, 3317856092, 3320851927, 3323850466, 3326851713, 3329855670, 3332862339, 3335871723, 3338883824, 3341898645, 3344916189, 3347936457, 3350959452, 3353985176, 3357013633],
   [3360044825, 3363078753, 3366115421, 3369154830, 3372196984, 3375241885, 3378289536, 3381339938, 3384393094, 3387449008, 3390507680, 3393569115, 3396633314, 3399700279, 3402770014, 3405842521]]

/-- Rows 32..39 of `freqTable`. -/
def freqTablePart4 : List (List Nat) :=
  [[3408917802, 3411995860, 3415076697, 3418160316, 3421246719, 3424335909, 3427427888, 3430522660, 3433620226, 3436720588, 3439823750, 3442929714, 3446038483, 3449150059, 3452264444, 3455381641],
   [3458501653, 3461624482, 3464750131, 3467878602, 3471009898, 3474144022, 3477280975, 3480420761, 3483563382, 3486708840, 3489857139, 3493008280, 3496162267, 3499319101, 3502478786, 3505641324],
   [3508806718, 3511974970, 3515146082, 3518320058, 3521496900, 3524676610, 3527859192, 3531044647, 3534232978, 3537424188, 3540618280, 3543815256, 3547015118, 3550217870, 3553423514, 3556632052],
   [3559843487, 3563057822, 3566275059, 3569495202, 3572718252, 3575944212, 3579173085, 3582404874, 3585639580, 3588877208, 3592117759, 3595361235, 3598607641, 3601856978, 3605109249, 3608364456],
   [3611622603, 3614883691, 3618147725, 3621414705, 3624684635, 3627957518, 3631233356, 3634512152, 3637793909, 3641078629, 3644366315, 3647656969, 3650950594, 3654247194, 3657546770, 3660849326],
   [3664154863, 3667463386, 3670774895, 3674089395, 3677406887, 3680727376, 3684050862, 3687377349, 3690706840, 3694039337, 3697374843, 3700713361, 3704054894, 3707399443, 3710747013, 3714097605],
   [3717451223, 3720807869, 3724167545, 3727530256, 3730896002, 3734264788, 3737636616, 3741011488, 3744389407, 3747770376, 3751154399, 3754541477, 3757931613, 3761324810, 3764721071, 3768120399],
   [3771522796, 3774928266, 3778336810, 3781748432, 3785163134, 3788580920, 3792001792, 3795425753, 3798852805, 3802282952, 3805716196, 3809152540, 3812591987, 3816034539, 3819480200, 3822928972]]

/-- Rows 40..47 of `freqTable`. -/
def freqTablePart5 : List (List Nat) :=
  [[3826380858, 3829835862, 3833293984, 3836755229, 3840219600, 3843687099, 3847157728, 3850631492, 3854108391, 3857588431, 3861071613, 3864557939, 3868047414, 3871540040, 3875035819, 3878534755],
   [3882036850, 3885542107, 3889050529, 3892562119, 3896076880, 3899594815, 3903115926, 3906640216, 3910167689, 3913698347, 3917232192, 3920769229, 3924309459, 3927852886, 3931399513, 3934949342],
   [3938502376, 3942058618, 3945618072, 3949180739, 3952746623, 3956315728, 3959888054, 3963463607, 3967042388, 3970624400, 3974209647, 3977798131, 3981389855, 3984984822, 3988583035, 3992184498],
   [3995789212, 3999397181, 4003008408, 4006622896, 4010240647, 4013861665, 4017485952, 4021113512, 4024744348, 4028378462, 4032015857, 4035656537, 4039300504, 4042947761, 4046598312, 4050252158],
   [4053909305, 4057569753, 4061233506, 4064900568, 4068570940, 4072244627, 4075921631, 4079601955, 4083285602, 4086972576, 4090662878, 4094356513, 4098053483, 4101753790, 4105457439, 4109164433],
   [4112874773, 4116588464, 4120305508, 4124025908, 4127749667, 4131476789, 4135207276, 4138941132, 4142678359, 4146418961, 4150162940, 4153910300, 4157661043, 4161415173, 4165172693, 4168933606],
   [4172697914, 4176465622, 4180236731, 4184011246, 4187789169, 4191570503, 4195355251, 4199143417, 4202935003, 4206730013, 4210528450, 4214330316, 4218135615, 4221944351, 4225756525, 4229572141],
   [4233391203, 4237213713, 4241039675, 4244869091, 4248701965, 4252538300, 4256378099, 4260221365, 4264068101, 4267918310, 4271771996, 4275629162, 4279489811, 4283353945, 4287221569, 4291092685]]

/-- `FREQ` in rows of sixteen (R53). -/
def freqTable : List (List Nat) :=
  freqTablePart0 ++ freqTablePart1 ++ freqTablePart2 ++ freqTablePart3 ++ freqTablePart4 ++ freqTablePart5

/-- `FREQ[k]` for `k` in 0..767 (R53). -/
def freqRom (k : Nat) : Nat := (freqTable.getD (k / 16) []).getD (k % 16) 0

end Sys2Proof.Machine
end

