-- ==== Sys2Proof/Machine/Ops.lean ====
section
/-! DEFINITION. The operations the meanings share: field updates, register and instrument reads,
`ignore`, reset and the ports. The CORE takes no exception and returns from none
(60_exceptions.md R190, R195): `ignore` is what stands in its place (00_scope.md R9). -/

namespace Sys2Proof.Machine

/-! ### Updates -/

/-- Write the voice pool. -/
def State.setVoices (s : State) (vs : List Voice) : State := { s with voices := vs }

/-- Write the channel map. -/
def State.setMap (s : State) (m : List Byte) : State := { s with map := m }

/-- Write `VOL`. -/
def State.setVol (s : State) (v : Half) : State := { s with vol := v }

/-- Write `MAXN`. -/
def State.setMaxn (s : State) (n : Count) : State := { s with maxn := n }

/-- Write `FRAME` and return the frame (44_sample_tick.md R161, its last two lines). -/
def State.emitFrame (s : State) (f : Word) : State := { s with frame := f, output := s.output ++ [f] }

/-- Set the events still to come. -/
def State.setInput (s : State) (es : List Event) : State := { s with input := es }

/-! ### Reads -/

/-- `BANK[j]` (20_memory.md R55); outside the ROM an opaque value (log 7). -/
def bankRead (cfg : Config) (j : Nat) : Instrument := (cfg.bank[j]?).getD (Config.bankHole j)

/-- `MAP[c]` (10_state.md R29); outside the map an opaque value (log 7). -/
def State.mapRead (s : State) (c : Nat) : Byte := (s.map[c]?).getD (Config.mapHole c)

/-- `BANK[MAP[c]]`: the instrument channel `c` names now (10_state.md R25, 20_memory.md R58). -/
def State.instrumentOf (s : State) (c : Nat) : Instrument := bankRead s.cfg (s.mapRead c).toNat

/-! ### The operations of 60_exceptions.md R191 and 70_reset_and_hazards.md R210 -/

/-- `ignore(reason)`: the command ends with no state change; no register records the reason
(R191). -/
def ignore (_reason : IgnoreReason) (s : State) : Outcome := .next s

/-- Reset (R210): the CORE's state becomes that of 10_state.md R37, whatever it was. The parameters
stay; so do the events still to come and the frames already returned, which are outside the CORE
(log 5). -/
def State.applyReset (s : State) : State :=
  { State.resetOf s.cfg with input := s.input, output := s.output }

/-! ### Ports (10_state.md R32) and the environment -/

/-- `frame_out`: the value of `FRAME`. -/
def State.frameOut (s : State) : Word := s.frame

/-- `max_notes_out`: the value of `MAXN` (R33). -/
def State.maxNotesOut (s : State) : Count := s.maxn

/-- The agents deliver further events, after those already pending (00_scope.md R11, R12). -/
def State.deliver (s : State) (es : List Event) : State := s.setInput (s.input ++ es)

/-- A command word and a tick strobe at the same instant: the command is ordered first
(20_memory.md R61). -/
def sameInstant (w : Word) : List Event := [.cmd w, .tick]

end Sys2Proof.Machine
end

