-- ==== Sys2Proof/Machine/Operands.lean ====
section
/-! DEFINITION. What the meanings compute from their operands: the effective ROM values
(20_memory.md R57), the pitch unit (40_note_frequency.md), the velocity scaling (41_voice_pool.md R103)
and the clamped controls (45_control_commands.md R174, R180). -/

namespace Sys2Proof.Machine

/-- `ONE` = 2^30, full scale of a level (00_scope.md R15). -/
abbrev levelOne : Nat := 1073741824

/-- `effRate(r)` (20_memory.md R57). -/
def effRate (r : Word) : Nat := if r.toNat = 0 ∨ levelOne < r.toNat then levelOne else r.toNat

/-- `effSus(s)` (20_memory.md R57). -/
def effSus (s : Word) : Nat := min s.toNat levelOne

/-! ### The pitch unit -/

/-- The pitch of A4 in 1/64 semitone: 69 * 64 (40_note_frequency.md R91). -/
abbrev pitchA4 : Int := 4416

/-- `PitchInc(P)` before the reduction mod 2^32 (40_note_frequency.md R91). -/
def pitchIncRaw (a440Inc : Word) (p : Int) : Nat :=
  let q := p - pitchA4
  let o := q / 768
  let k := (q % 768).toNat
  let m := a440Inc.toNat * freqRom k
  if 0 ≤ o then m * 2 ^ o.toNat / 2 ^ 31 else m / 2 ^ (31 - o).toNat

/-- `PitchInc(P)` (40_note_frequency.md R91). -/
def pitchInc (a440Inc : Word) (p : Int) : Word := BitVec.ofNat 32 (pitchIncRaw a440Inc p)

/-- `ModInc(car, mult)` (40_note_frequency.md R93). -/
def modIncOf (car : Word) (mult : Half) : Word := BitVec.ofNat 32 (car.toNat * mult.toNat / 256)

/-- The pitch NOTE_ON gives to `PitchInc` (40_note_frequency.md R92). -/
def notePitch (note : Nat) (ins : Instrument) : Int := 64 * note + ins.pitchOffset.toInt

/-- The pitch ALTER_PITCH gives to `PitchInc` (40_note_frequency.md R92). -/
def bentPitch (note bend : Nat) (ins : Instrument) : Int := notePitch note ins + 16 * ((bend : Int) - 64)

/-! ### Scalings and clamps -/

/-- `floor(x * vel / 127)` (41_voice_pool.md R103). -/
def scaleByVelocity (x vel : Nat) : Nat := x * vel / 127

/-- The gain of a note: `floor(loudness * vel / 127)`, u16 (41_voice_pool.md R103,
45_control_commands.md R176). -/
def ampOf (ins : Instrument) (vel : Nat) : Half :=
  BitVec.ofNat 16 (scaleByVelocity ins.loudness.toNat vel)

/-- The modulation depth of a note: `floor(fmAmpStart * vel / 127)`, u32 (41_voice_pool.md R103). -/
def modDepthOf (ins : Instrument) (vel : Nat) : Word :=
  BitVec.ofNat 32 (scaleByVelocity ins.fmAmpStart.toNat vel)

/-- `floor(min(pct, 100) * 32768 / 100)` (45_control_commands.md R174). -/
def volumeOf (pct : Nat) : Half := BitVec.ofNat 16 (min pct 100 * 32768 / 100)

/-- `clamp(n, 1, NV)` (45_control_commands.md R180). -/
def ceilingOf (n nv : Nat) : Count := BitVec.ofNat 9 (clampNat n 1 nv)

end Sys2Proof.Machine
end

