-- ==== Sys2Proof/Machine/Control.lean ====
section
/-! DEFINITION. The channel and global control commands (45_control_commands.md). -/

namespace Sys2Proof.Machine

/-- NOP (R170). -/
def execNop (s : State) : Outcome := .next s

/-- SET_INSTRUMENT (R172): both checks come before the write. -/
def execSetInstrument (ch idx : Nat) (s : State) : Outcome :=
  if s.cfg.nv ≤ ch then ignore .channelRange s
  else if s.cfg.ni ≤ idx then ignore .instrumentRange s
  else .next (s.setMap (s.map.set ch (BitVec.ofNat 8 idx)))

/-- SET_VOLUME (R174). -/
def execSetVolume (pct : Nat) (s : State) : Outcome := .next (s.setVol (volumeOf pct))

/-- ALTER_VOL's write to one voice (R176). -/
def Voice.withGain (ins : Instrument) (vel : Nat) (v : Voice) : Voice := { v with amp := ampOf ins vel }

/-- ALTER_VOL (R176): every active voice on the channel. -/
def execAlterVol (ch vel : Nat) (s : State) : Outcome :=
  if s.cfg.nv ≤ ch then ignore .channelRange s
  else
    let ins := s.instrumentOf ch
    .next (s.setVoices (s.voices.map fun v => if v.soundsOn ch then v.withGain ins vel else v))

/-- ALTER_PITCH's writes to one voice (R177). The bend is not stored: the pitch starts from the
voice's note (R178). -/
def Voice.withBend (cfg : Config) (ins : Instrument) (bend : Nat) (v : Voice) : Voice :=
  let carInc := pitchInc cfg.a440Inc (bentPitch v.note.toNat bend ins)
  { v with carInc := carInc, modInc := modIncOf carInc ins.fmMult }

/-- ALTER_PITCH (R177): every active voice on the channel. -/
def execAlterPitch (ch bend : Nat) (s : State) : Outcome :=
  if s.cfg.nv ≤ ch then ignore .channelRange s
  else
    let ins := s.instrumentOf ch
    .next (s.setVoices (s.voices.map fun v => if v.soundsOn ch then v.withBend s.cfg ins bend else v))

/-- SET_MAX_NOTES (R180). -/
def execSetMaxNotes (n : Nat) (s : State) : Outcome := .next (s.setMaxn (ceilingOf n s.cfg.nv))

end Sys2Proof.Machine
end

