-- ==== Sys2Proof/Machine/Notes.lean ====
section
/-! DEFINITION. The allocator with its oldest-first stealing (41_voice_pool.md R100, R101) and the note
commands NOTE_ON, NOTE_OFF, ALL_NOTES_OFF. -/

namespace Sys2Proof.Machine

/-! ### The allocator -/

/-- Phase FREE: the first inactive voice, ascending (R101). -/
def firstFree (vs : List Voice) : Option Nat := vs.findIdx? (fun v => !v.active)

/-- Phase STEAL's loop (R101): `best` has time `bestTime`; `i` is the index of the list's head. The
strict comparison keeps the lower index on a tie. -/
def oldestFrom (best bestTime i : Nat) : List Voice → Nat
  | [] => best
  | v :: vs =>
    if bestTime < v.time.toNat then oldestFrom i v.time.toNat (i + 1) vs
    else oldestFrom best bestTime (i + 1) vs

/-- Phase STEAL: the oldest voice, the lowest index on a tie (R101). -/
def oldest : List Voice → Nat
  | [] => 0
  | v :: vs => oldestFrom 0 v.time.toNat 1 vs

/-- `Allocate(V)` (R101). -/
def allocate (vs : List Voice) : Nat :=
  match firstFree vs with
  | some i => i
  | none => oldest vs

/-! ### The commands -/

/-- Every field NOTE_ON writes (R103); nothing of the voice it replaces survives (R104). -/
def claimedVoice (cfg : Config) (ins : Instrument) (ch note vel : Nat) : Voice :=
  let carInc := pitchInc cfg.a440Inc (notePitch note ins)
  { carInc := carInc
    modInc := modIncOf carInc ins.fmMult
    modDepth := modDepthOf ins vel
    amp := ampOf ins vel
    phase := 0
    modPhase := 0
    level := 0
    state := .attack
    active := true
    time := 0
    note := BitVec.ofNat 7 note
    channel := BitVec.ofNat 8 ch }

/-- NOTE_ON (R103). -/
def execNoteOn (ch note vel : Nat) (s : State) : Outcome :=
  if s.cfg.nv ≤ ch then ignore .channelRange s
  else
    let v := claimedVoice s.cfg (s.instrumentOf ch) ch note vel
    .next (s.setVoices (s.voices.set (allocate s.voices) v))

/-- NOTE_OFF's scan (R108): only the first match is changed. -/
def releaseFirst (ch note : Nat) : List Voice → List Voice
  | [] => []
  | v :: vs => if v.plays ch note then v.toRelease :: vs else v :: releaseFirst ch note vs

/-- NOTE_OFF (R108). The sustain tested is that of the instrument the channel names now; a zero
sustain leaves the voice as it is (log 16). -/
def execNoteOff (ch note : Nat) (s : State) : Outcome :=
  if s.cfg.nv ≤ ch then ignore .channelRange s
  else if effSus (s.instrumentOf ch).sustain = 0 then .next s
  else .next (s.setVoices (releaseFirst ch note s.voices))

/-- ALL_NOTES_OFF (R110). -/
def execAllNotesOff (s : State) : Outcome := .next (s.setVoices (s.voices.map Voice.silence))

end Sys2Proof.Machine
end

