-- ==== Sys2Proof/Machine/Dispatch.lean ====
section
/-! DEFINITION. The dispatch of a decoded command to its meaning (30_encoding.md R80). -/

namespace Sys2Proof.Machine

def exec (i : Instr) (s : State) : Host.Outcome State Fault Refusal :=
  match i with
  | .nop => Sys2Proof.Machine.execNop s
  | .noteOn ch note vel => Sys2Proof.Machine.execNoteOn ch note vel s
  | .noteOff ch note => Sys2Proof.Machine.execNoteOff ch note s
  | .allNotesOff => Sys2Proof.Machine.execAllNotesOff s
  | .setInstrument ch idx => Sys2Proof.Machine.execSetInstrument ch idx s
  | .setVolume pct => Sys2Proof.Machine.execSetVolume pct s
  | .alterVol ch vel => Sys2Proof.Machine.execAlterVol ch vel s
  | .alterPitch ch bend => Sys2Proof.Machine.execAlterPitch ch bend s
  | .setMaxNotes n => Sys2Proof.Machine.execSetMaxNotes n s

end Sys2Proof.Machine
end

