-- ==== Sys2Proof/Machine/Envelope.lean ====
section
/-! DEFINITION. The ADSR envelope step (42_envelope.md R120-R128). -/

namespace Sys2Proof.Machine

/-- Attack (R122). -/
def attackStep (ins : Instrument) (v : Voice) : Voice :=
  let l := v.level.toNat + effRate ins.attackRate
  if levelOne ≤ l then { v with level := BitVec.ofNat 32 levelOne, state := .decay }
  else { v with level := BitVec.ofNat 32 l }

/-- `dStep = ceil(dR * (2^30 - S) / 2^30)` (R123). -/
def decayDrop (ins : Instrument) : Nat :=
  ceilDiv (effRate ins.decayRate * (levelOne - effSus ins.sustain)) levelOne

/-- Decay (R123), to Release instead of Sustain when the sustain is zero (R124). -/
def decayStep (ins : Instrument) (v : Voice) : Voice :=
  let sus := effSus ins.sustain
  if v.level.toNat ≤ sus + decayDrop ins then
    { v with level := BitVec.ofNat 32 sus, state := if sus = 0 then .release else .sustain }
  else { v with level := BitVec.ofNat 32 (v.level.toNat - decayDrop ins) }

/-- Sustain (R125). -/
def sustainStep (ins : Instrument) (v : Voice) : Voice :=
  { v with level := BitVec.ofNat 32 (effSus ins.sustain) }

/-- Release (R126). -/
def releaseStep (ins : Instrument) (v : Voice) : Voice :=
  let rate := effRate ins.releaseRate
  if v.level.toNat ≤ rate then v.toIdle
  else { v with level := BitVec.ofNat 32 (v.level.toNat - rate) }

/-- `EnvStep` (R121) with the instrument read at this Tick. An Idle voice is not stepped (R127). -/
def envStep (ins : Instrument) (v : Voice) : Voice :=
  match v.state with
  | .idle => v
  | .attack => attackStep ins v
  | .decay => decayStep ins v
  | .sustain => sustainStep ins v
  | .release => releaseStep ins v

/-- `n` envelope steps under one instrument: the Ticks R129 counts. -/
def envRun (ins : Instrument) : Nat → Voice → Voice
  | 0, v => v
  | n + 1, v => envRun ins n (envStep ins v)

end Sys2Proof.Machine
end

