-- ==== Sys2Proof/Machine/SineRom.lean ====
section
/-! DEFINITION. The sine ROM (20_memory.md R50, R51): `round_half_away(32767 * sin(2*pi*i / 2048))`.
The table holds the first quarter, 0..512; the symmetries R51 states give the rest (log 10). -/

namespace Sys2Proof.Machine

/-- Rows 0..7 of `sineQuarter`. -/
def sineQuarterPart0 : List (List Nat) :=
  [[0, 101, 201, 302, 402, 503, 603, 704, 804, 905, 1005, 1106, 1206, 1307, 1407, 1507],
   [1608, 1708, 1809, 1909, 2009, 2110, 2210, 2310, 2410, 2511, 2611, 2711, 2811, 2911, 3012, 3112],
   [3212, 3312, 3412, 3512, 3612, 3712, 3811, 3911, 4011, 4111, 4210, 4310, 4410, 4509, 4609, 4708],
   [4808, 4907, 5007, 5106, 5205, 5305, 5404, 5503, 5602, 5701, 5800, 5899, 5998, 6096, 6195, 6294],
   [6393, 6491, 6590, 6688, 6786, 6885, 6983, 7081, 7179, 7277, 7375, 7473, 7571, 7669, 7767, 7864],
   [7962, 8059, 8157, 8254, 8351, 8448, 8545, 8642, 8739, 8836, 8933, 9030, 9126, 9223, 9319, 9416],
   [9512, 9608, 9704, 9800, 9896, 9992, 10087, 10183, 10278, 10374, 10469, 10564, 10659, 10754, 10849, 10944],
   [11039, 11133, 11228, 11322, 11417, 11511, 11605, 11699, 11793, 11886, 11980, 12074, 12167, 12260, 12353, 12446]]

/-- Rows 8..15 of `sineQuarter`. -/
def sineQuarterPart1 : List (List Nat) :=
  [[12539, 12632, 12725, 12817, 12910, 13002, 13094, 13187, 13279, 13370, 13462, 13554, 13645, 13736, 13828, 13919],
   [14010, 14101, 14191, 14282, 14372, 14462, 14553, 14643, 14732, 14822, 14912, 15001, 15090, 15180, 15269, 15358],
   [15446, 15535, 15623, 15712, 15800, 15888, 15976, 16063, 16151, 16238, 16325, 16413, 16499, 16586, 16673, 16759],
   [16846, 16932, 17018, 17104, 17189, 17275, 17360, 17445, 17530, 17615, 17700, 17784, 17869, 17953, 18037, 18121],
   [18204, 18288, 18371, 18454, 18537, 18620, 18703, 18785, 18868, 18950, 19032, 19113, 19195, 19276, 19357, 19438],
   [19519, 19600, 19680, 19761, 19841, 19921, 20000, 20080, 20159, 20238, 20317, 20396, 20475, 20553, 20631, 20709],
   [20787, 20865, 20942, 21019, 21096, 21173, 21250, 21326, 21403, 21479, 21554, 21630, 21705, 21781, 21856, 21930],
   [22005, 22079, 22154, 22227, 22301, 22375, 22448, 22521, 22594, 22667, 22739, 22812, 22884, 22956, 23027, 23099]]

/-- Rows 16..23 of `sineQuarter`. -/
def sineQuarterPart2 : List (List Nat) :=
  [[23170, 23241, 23311, 23382, 23452, 23522, 23592, 23662, 23731, 23801, 23870, 23938, 24007, 24075, 24143, 24211],
   [24279, 24346, 24413, 24480, 24547, 24613, 24680, 24746, 24811, 24877, 24942, 25007, 25072, 25137, 25201, 25265],
   [25329, 25393, 25456, 25519, 25582, 25645, 25708, 25770, 25832, 25893, 25955, 26016, 26077, 26138, 26198, 26259],
   [26319, 26378, 26438, 26497, 26556, 26615, 26674, 26732, 26790, 26848, 26905, 26962, 27019, 27076, 27133, 27189],
   [27245, 27300, 27356, 27411, 27466, 27521, 27575, 27629, 27683, 27737, 27790, 27843, 27896, 27949, 28001, 28053],
   [28105, 28157, 28208, 28259, 28310, 28360, 28411, 28460, 28510, 28560, 28609, 28658, 28706, 28755, 28803, 28850],
   [28898, 28945, 28992, 29039, 29085, 29131, 29177, 29223, 29268, 29313, 29358, 29403, 29447, 29491, 29534, 29578],
   [29621, 29664, 29706, 29749, 29791, 29832, 29874, 29915, 29956, 29997, 30037, 30077, 30117, 30156, 30195, 30234]]

/-- Rows 24..31 of `sineQuarter`. -/
def sineQuarterPart3 : List (List Nat) :=
  [[30273, 30311, 30349, 30387, 30424, 30462, 30498, 30535, 30571, 30607, 30643, 30679, 30714, 30749, 30783, 30818],
   [30852, 30885, 30919, 30952, 30985, 31017, 31050, 31082, 31113, 31145, 31176, 31206, 31237, 31267, 31297, 31327],
   [31356, 31385, 31414, 31442, 31470, 31498, 31526, 31553, 31580, 31607, 31633, 31659, 31685, 31710, 31736, 31760],
   [31785, 31809, 31833, 31857, 31880, 31903, 31926, 31949, 31971, 31993, 32014, 32036, 32057, 32077, 32098, 32118],
   [32137, 32157, 32176, 32195, 32213, 32232, 32250, 32267, 32285, 32302, 32318, 32335, 32351, 32367, 32382, 32397],
   [32412, 32427, 32441, 32455, 32469, 32482, 32495, 32508, 32521, 32533, 32545, 32556, 32567, 32578, 32589, 32599],
   [32609, 32619, 32628, 32637, 32646, 32655, 32663, 32671, 32678, 32685, 32692, 32699, 32705, 32711, 32717, 32722],
   [32728, 32732, 32737, 32741, 32745, 32748, 32752, 32755, 32757, 32759, 32761, 32763, 32765, 32766, 32766, 32767]]

/-- Rows 32..32 of `sineQuarter`. -/
def sineQuarterPart4 : List (List Nat) :=
  [[32767]]

/-- `SINE[0..512]` in rows of sixteen: the first quarter of the cycle (R51). -/
def sineQuarter : List (List Nat) :=
  sineQuarterPart0 ++ sineQuarterPart1 ++ sineQuarterPart2 ++ sineQuarterPart3 ++ sineQuarterPart4

/-- `SINE[i]` for `i` in 0..512. -/
def sineFirstQuarter (i : Nat) : Nat := (sineQuarter.getD (i / 16) []).getD (i % 16) 0

/-- `SINE[i]` for `i` in 0..1024: `SINE[1024 - i] = SINE[i]` (R51). -/
def sineFirstHalf (i : Nat) : Nat := if i ≤ 512 then sineFirstQuarter i else sineFirstQuarter (1024 - i)

/-- `SINE[i]` for `i` in 0..2047: `SINE[1024 + i] = -SINE[i]` (R51). -/
def sineRom (i : Nat) : Int := if i < 1024 then sineFirstHalf i else -sineFirstHalf (i - 1024)

end Sys2Proof.Machine
end

