-- ==== Sys2Proof/Machine/Oscillator.lean ====
section
/-! DEFINITION. The sine reader, the FM oscillator, the contribution of one voice, and the clamper and
quantizer (43_oscillator_mixer.md R140-R152). -/

namespace Sys2Proof.Machine

/-- `Sine(ph) = SINE[ph[31:21]]` (R140). -/
def sine (ph : Word) : Int := sineRom (ph.toNat / 2 ^ 21)

/-- `dev = floor(modDepth * sm / 2^15)` (R142). -/
def deviation (modDepth : Word) (sm : Int) : Int := modDepth.toNat * sm / 2 ^ 15

/-- The two phase advances (R141, R143): the modulator first, and the carrier with the deviation of
the advanced modulator. -/
def oscStep (v : Voice) : Voice :=
  let modPhase := v.modPhase + v.modInc
  let dev := deviation v.modDepth (sine modPhase)
  { v with
    modPhase := modPhase
    phase := BitVec.ofInt 32 (v.phase.toNat + v.carInc.toNat + dev) }

/-- `e = level >> 15` (R144). -/
def mixerLevel (level : Word) : Nat := level.toNat / 2 ^ 15

/-- `c3` from the sine sample, gain, level and volume, floored after each product (R145). -/
def contributionOf (sc : Int) (amp : Half) (level : Word) (vol : Half) : Int :=
  let c1 : Int := sc * amp.toNat / 2 ^ 15
  let c2 : Int := c1 * mixerLevel level / 2 ^ 15
  c2 * vol.toNat / 2 ^ 15

/-- The contribution of a voice whose phases have been advanced (R145). -/
def contribution (vol : Half) (v : Voice) : Int := contributionOf (sine v.phase) v.amp v.level vol

/-- The output sample as an integer: clamp, then scale by 32767/32768 toward zero (R151). -/
def outputOf (acc : Int) : Int := trunc0 (clampInt acc (-32768) 32768 * 32767) 32768

/-- `out`, s16 (R151). -/
def quantize (acc : Int) : Half := BitVec.ofInt 16 (outputOf acc)

/-- `out[15:0] ++ out[15:0]`: right in the high half, left in the low half (R152). -/
def frameOf (out : Half) : Word := wordOfHalves out out

end Sys2Proof.Machine
end

