-- ==== Sys2Proof/Machine/Tick.lean ====
section
/-! DEFINITION. The sample Tick (44_sample_tick.md R160, R161). -/

namespace Sys2Proof.Machine

/-- `time <- sat32(time + 1)` (R161). -/
def Voice.age (v : Voice) : Voice := { v with time := BitVec.ofNat 32 (sat32 (v.time.toNat + 1)) }

/-- One visit of the scan (R161): time, envelope, oscillator, contribution. An inactive voice is not
visited; one that goes Idle in this Tick runs no oscillator and contributes 0. -/
def voiceTick (ins : Instrument) (vol : Half) (v : Voice) : Voice × Int :=
  if v.active = false then (v, 0)
  else
    let v1 := envStep ins v.age
    if v1.active = false then (v1, 0)
    else
      let v2 := oscStep v1
      (v2, contribution vol v2)

/-- The scan over the pool in ascending order, with the accumulator (R161). The voices left to visit,
then what has been summed; answers the visited voices and the whole sum. -/
def tickScan (s : State) : List Voice → Int → List Voice × Int
  | [], acc => ([], acc)
  | v :: vs, acc =>
    let visited := voiceTick (s.instrumentOf v.channel.toNat) s.vol v
    let rest := tickScan s vs (acc + visited.2)
    (visited.1 :: rest.1, rest.2)

/-- The state a Tick leaves (R161). -/
def tickState (s : State) : State :=
  let scan := tickScan s s.voices 0
  (s.setVoices scan.1).emitFrame (frameOf (quantize scan.2))

/-- `ExecTick` (R160). -/
def execTick (s : State) : Outcome := .next (tickState s)

end Sys2Proof.Machine
end

