-- ==== Sys2Proof/Machine/Events.lean ====
section
/-! DEFINITION. What one event does to the state (00_scope.md R11). -/

namespace Sys2Proof.Machine

/-- `ExecCmd(S, w)` (30_encoding.md R80): the decoded command runs, or the word is ignored. -/
def execCmd (w : Word) (s : State) : Outcome :=
  match decode w with
  | .ok i => exec i s
  | .error reason => ignore reason s

/-- One event (00_scope.md R11; 70_reset_and_hazards.md R210). -/
def applyEvent (e : Event) (s : State) : Outcome :=
  match e with
  | .cmd w => execCmd w s
  | .tick => execTick s
  | .rst => .next s.applyReset

end Sys2Proof.Machine
end

