-- ==== Sys2Proof/Machine/Step.lean ====
section
/-! DEFINITION. One step: one event applied whole (00_scope.md R11, 20_memory.md R60). -/

namespace Sys2Proof.Machine

/-- One step: the next event, taken from the events still to come. With none the CORE holds its state
(60_exceptions.md R200; log 6). -/
def step (s : State) : Host.Outcome State Fault Refusal :=
  match s.input with
  | [] => .next s
  | e :: rest => applyEvent e (s.setInput rest)

/-- The control agent's next event is this command word, before every other (log 13). -/
def State.withFetchWord (s : State) (nbits w : Nat) : State :=
  s.setInput (.cmd (tableWord nbits w) :: s.input)

end Sys2Proof.Machine
end

