-- ==== Sys2Proof/Machine/Asm.lean ====
section
/-! DEFINITION. The assembler syntax and the pseudo-instructions (30_encoding.md R77, R78). It turns one
line of text into the events it stands for; the CORE does not contain it. What R77 leaves open about
spacing and numbers is chosen in log 18. -/

namespace Sys2Proof.Machine

/-- One line of a program, with the pseudo-instructions of R78. -/
inductive AsmLine where
  /-- nothing, or a comment only -/
  | blank
  /-- an instruction of R77 -/
  | instr (i : Instr)
  /-- `noteon ch, note`: the velocity defaults to 127 -/
  | noteOnDefault (ch note : Nat)
  /-- `bendcenter ch` -/
  | bendCenter (ch : Nat)
  /-- `tick` and `tick n` -/
  | ticks (n : Nat)
deriving DecidableEq, Repr

/-- The word of an instruction; an operand too wide for its field is refused (R77). -/
def assemble (i : Instr) : Option (List Event) :=
  if i.WellFormed then some [.cmd (encode i)] else none

/-- The events of a line (R77, R78). -/
def expand : AsmLine → Option (List Event)
  | .blank => some []
  | .instr i => assemble i
  | .noteOnDefault ch note => assemble (.noteOn ch note 127)
  | .bendCenter ch => assemble (.alterPitch ch 64)
  | .ticks n => some (List.replicate n .tick)

/-! ### Reading a line -/

/-- A blank between tokens. -/
def isBlank (c : Char) : Bool := c == ' ' || c == '\t'

/-- The text before a comment (R77). -/
def stripComment : List Char → List Char
  | [] => []
  | c :: cs => if c == ';' then [] else c :: stripComment cs

/-- The text without blanks at either end. -/
def trim (cs : List Char) : List Char :=
  ((cs.dropWhile isBlank).reverse.dropWhile isBlank).reverse

/-- A hex digit's value. -/
def digitValue (c : Char) : Option Nat :=
  if '0' ≤ c ∧ c ≤ '9' then some (c.toNat - '0'.toNat)
  else if 'a' ≤ c ∧ c ≤ 'f' then some (c.toNat - 'a'.toNat + 10)
  else if 'A' ≤ c ∧ c ≤ 'F' then some (c.toNat - 'A'.toNat + 10)
  else none

/-- Digits in a base, after a value already read. -/
def digitsIn (base : Nat) : Nat → List Char → Option Nat
  | acc, [] => some acc
  | acc, c :: cs =>
    match digitValue c with
    | some d => if d < base then digitsIn base (acc * base + d) cs else none
    | none => none

/-- An operand: decimal or `0x` hex (R77). -/
def number : List Char → Option Nat
  | [] => none
  | '0' :: 'x' :: c :: cs => digitsIn 16 0 (c :: cs)
  | c :: cs => digitsIn 10 0 (c :: cs)

/-- The pieces between commas; `cur` is the piece being read, reversed. -/
def splitCommas (cur : List Char) : List Char → List (List Char)
  | [] => [cur.reverse]
  | c :: cs => if c == ',' then cur.reverse :: splitCommas [] cs else splitCommas (c :: cur) cs

/-- Every piece a number, or nothing. -/
def numbers : List (List Char) → Option (List Nat)
  | [] => some []
  | p :: ps =>
    match number (trim p), numbers ps with
    | some n, some ns => some (n :: ns)
    | _, _ => none

/-- The operands after a mnemonic: none, or numbers separated by commas (R77). -/
def operandList (cs : List Char) : Option (List Nat) :=
  if (trim cs).isEmpty then some [] else numbers (splitCommas [] cs)

/-- The line of a mnemonic and its operands (R77, R78). -/
def lineOf (mnemonic : String) (ops : List Nat) : Option AsmLine :=
  match mnemonic, ops with
  | "nop", [] => some (.instr .nop)
  | "noteon", [ch, note, vel] => some (.instr (.noteOn ch note vel))
  | "noteon", [ch, note] => some (.noteOnDefault ch note)
  | "noteoff", [ch, note] => some (.instr (.noteOff ch note))
  | "allnotesoff", [] => some (.instr .allNotesOff)
  | "setinst", [ch, idx] => some (.instr (.setInstrument ch idx))
  | "setvol", [pct] => some (.instr (.setVolume pct))
  | "altervol", [ch, vel] => some (.instr (.alterVol ch vel))
  | "alterpitch", [ch, bend] => some (.instr (.alterPitch ch bend))
  | "bendcenter", [ch] => some (.bendCenter ch)
  | "setmaxnotes", [n] => some (.instr (.setMaxNotes n))
  | "tick", [] => some (.ticks 1)
  | "tick", [n] => some (.ticks n)
  | _, _ => none

/-- One line of text as an `AsmLine` (R77). -/
def parseLine (text : List Char) : Option AsmLine :=
  let body := trim (stripComment text)
  if body.isEmpty then some .blank
  else
    let mnemonic := body.takeWhile (fun c => !isBlank c)
    match operandList (body.drop mnemonic.length) with
    | some ops => lineOf (String.ofList mnemonic) ops
    | none => none

/-- One line of text as the events it stands for; none where the assembler refuses it. -/
def assembleLine (text : String) : Option (List Event) := (parseLine text.toList).bind expand

end Sys2Proof.Machine
end

