-- ==== Sys2Proof/Machine/Build.lean ====
section
/-! DEFINITION. The duties of whoever builds the instrument ROM and sets the parameters: the ROM image
layout (20_memory.md R55), the conversion from document units (R56), A440_INC (00_scope.md R7) and the
time conversion of R18. The CORE performs none of them. Quantities the spec writes as reals are
rationals here (log 17). -/

namespace Sys2Proof.Machine

/-! ### The ROM image: nine words an entry (R55) -/

/-- The image words 9j..9j+8 of one entry (R55). -/
def imageOf (ins : Instrument) : List Word :=
  [wordOfHalves ins.pitchOffset ins.loudness, ins.attackRate, ins.decayRate, ins.sustain, ins.releaseRate,
   wordOfHalves 0 ins.fmMult, ins.fmAmpStart, ins.fmAmpEnd, ins.fmDecay]

/-- The entry nine image words hold (R55). R55 gives word 5 a high half of 0 and says nothing of another
one: the reader drops it. It answers none for another number of words. Both are the model's choice
(DESIGN CHOICE, unsafe for a claim about such an image: log 22). -/
def ofImage : List Word → Option Instrument
  | [w0, w1, w2, w3, w4, w5, w6, w7, w8] =>
    some { loudness := w0.extractLsb' 0 16, pitchOffset := w0.extractLsb' 16 16,
           attackRate := w1, decayRate := w2, sustain := w3, releaseRate := w4,
           fmMult := w5.extractLsb' 0 16, fmAmpStart := w6, fmAmpEnd := w7, fmDecay := w8 }
  | _ => none

/-- The image of a whole bank, entry `j` at words `9j..9j+8` (R55). -/
def bankImage (bank : List Instrument) : List Word := bank.flatMap imageOf

/-! ### Unit conversion (R56) -/

/-- A segment time of `t` seconds as a per-Tick rate (R56). -/
def rateOf (t : Rat) (fs : Nat) : Word :=
  if t ≤ 0 then 0 else BitVec.ofInt 32 (clampInt (roundHalfUp (levelOne / (t * fs))) 1 levelOne)

/-- A frequency deviation in Hz as a phase-increment amplitude (R56). R56 clamps it from above only; a
negative deviation wraps mod 2^32 (DESIGN CHOICE, unsafe: log 21). -/
def incrementOf (hz : Rat) (fs : Nat) : Word :=
  BitVec.ofInt 32 (min (2 ^ 32 - 1) (roundHalfUp (hz * 2 ^ 32 / fs)))

/-- An instrument in the document's units (R56): gain, semitones, seconds, a level in [0,1], a ratio
and two deviations in Hz. -/
structure DocInstrument where
  loudness : Rat
  pitchOffset : Rat
  attack : Rat
  decay : Rat
  sustain : Rat
  release : Rat
  fmRatio : Rat
  fmAmpStart : Rat
  fmAmpEnd : Rat
deriving DecidableEq, Repr

/-- The ROM entry of a document-unit instrument (R56). The document gives `fmDecay` no unit and R56
does not convert it, so the builder passes the word (log 17). R56 clamps the gain, the ratio and the
deviations from above only and states no result below 0: there the unsigned field takes the integer
mod its width (DESIGN CHOICE, unsafe: log 21). So does a sustain outside the [0,1] of R56. -/
def buildEntry (d : DocInstrument) (fmDecay : Word) (fs : Nat) : Instrument :=
  { loudness := BitVec.ofInt 16 (min 65535 (roundHalfUp (d.loudness * 32768)))
    pitchOffset := BitVec.ofInt 16 (clampInt (roundHalfUp (d.pitchOffset * 64)) (-32768) 32767)
    attackRate := rateOf d.attack fs
    decayRate := rateOf d.decay fs
    sustain := BitVec.ofInt 32 (roundHalfUp (d.sustain * levelOne))
    releaseRate := rateOf d.release fs
    fmMult := BitVec.ofInt 16 (min 65535 (roundHalfUp (d.fmRatio * 256)))
    fmAmpStart := incrementOf d.fmAmpStart fs
    fmAmpEnd := incrementOf d.fmAmpEnd fs
    fmDecay := fmDecay }

/-- `round_half_up(440 * 2^32 / FS)` (00_scope.md R7, 70_reset_and_hazards.md R212). Where that leaves
the 1..2^32-1 of R7, as for an `FS` of 440 or less, it is taken mod 2^32 (DESIGN CHOICE, unsafe: log 21). -/
def a440IncFor (fs : Nat) : Word := BitVec.ofInt 32 (roundHalfUp (440 * 2 ^ 32 / fs))

/-- A configuration whose increments mean what 00_scope.md R7 says they mean. The CORE's rules hold
without it (93 I13). -/
abbrev Tuned (c : Config) : Prop := c.a440Inc = a440IncFor c.fs

/-- A duration of `t` seconds in Ticks (00_scope.md R18). -/
def ticksOf (t : Rat) (fs : Nat) : Rat := t * fs

end Sys2Proof.Machine
end

