-- ==== Sys2Proof/Machine/Ignore.lean ====
section
/-! DEFINITION. The name of the reason a word or a command is ignored, in the priority of
60_exceptions.md R193. No register records it; it is here so that claims can name it. -/

namespace Sys2Proof.Machine

/-- The reason a well-encoded command is ignored under a configuration: `ChannelRange` before
`InstrumentRange` (60_exceptions.md R191, R193). -/
def rangeReason (cfg : Config) : Instr → Option IgnoreReason
  | .nop => none
  | .noteOn ch _ _ => if cfg.nv ≤ ch then some .channelRange else none
  | .noteOff ch _ => if cfg.nv ≤ ch then some .channelRange else none
  | .allNotesOff => none
  | .setInstrument ch idx =>
    if cfg.nv ≤ ch then some .channelRange
    else if cfg.ni ≤ idx then some .instrumentRange else none
  | .setVolume _ => none
  | .alterVol ch _ => if cfg.nv ≤ ch then some .channelRange else none
  | .alterPitch ch _ => if cfg.nv ≤ ch then some .channelRange else none
  | .setMaxNotes _ => none

/-- The reason a word is ignored, if it is: the decoder's reasons first (R193). -/
def wordReason (cfg : Config) (w : Word) : Option IgnoreReason :=
  match decode w with
  | .error r => some r
  | .ok i => rangeReason cfg i

end Sys2Proof.Machine
end

