-- ==== Sys2Proof/Safety.lean ====
section
/-! DEFINITION. The terms claims use: the invariant of 10_state.md R24, the states a run can reach, what
the outside cannot tell apart (00_scope.md R14), and the reserved-zero bits of 30_encoding.md R72. -/

namespace Sys2Proof.Machine

/-! ### The invariant -/

/-- What every voice of every reachable state keeps (10_state.md R24; the note fits 7 bits by its
type). -/
abbrev Voice.Inv (cfg : Config) (v : Voice) : Prop :=
  v.level.toNat ≤ levelOne ∧ v.channel.toNat < cfg.nv ∧ (v.active = true ↔ v.state ≠ .idle)

/-- A frame carries one sample in both halves, never −32768 (43_oscillator_mixer.md R151, R152). -/
abbrev FrameInv (f : Word) : Prop :=
  f = frameOf (f.extractLsb' 0 16) ∧ -32767 ≤ (f.extractLsb' 0 16).toInt

/-- What every reachable state keeps: legal parameters (00_scope.md R7), exactly `NV` voices and map
entries (10_state.md R20, R27), legal register values (R27), R24 of every voice, and a frame that a Tick
could have produced. -/
abbrev State.Inv (s : State) : Prop :=
  s.cfg.Legal ∧ s.voices.length = s.cfg.nv ∧ s.map.length = s.cfg.nv ∧
    (∀ m ∈ s.map, m.toNat < s.cfg.ni) ∧ s.vol.toNat ≤ 32768 ∧
    1 ≤ s.maxn.toNat ∧ s.maxn.toNat ≤ s.cfg.nv ∧ (∀ v ∈ s.voices, v.Inv s.cfg) ∧ FrameInv s.frame

/-- The states of the runs of 00_scope.md R11: from reset, by events the agents deliver and steps, in
any interleaving. -/
inductive Reachable (cfg : Config) : State → Prop where
  | reset : Reachable cfg (State.resetOf cfg)
  | deliver {s : State} (es : List Event) : Reachable cfg s → Reachable cfg (s.deliver es)
  | step {s t : State} : Reachable cfg s → step s = .next t → Reachable cfg t

/-! ### Readings of the rules' own words -/

/-- Voice `v` is active on channel `ch` (45_control_commands.md R176, R177). -/
abbrev Voice.SoundsOn (v : Voice) (ch : Nat) : Prop := v.active = true ∧ v.channel.toNat = ch

/-- Voice `v` is what a NOTE_OFF of `ch` and `note` looks for (41_voice_pool.md R108). -/
abbrev Voice.Plays (v : Voice) (ch note : Nat) : Prop := v.SoundsOn ch ∧ v.note.toNat = note

/-- The sample in a frame's left half (43_oscillator_mixer.md R152). -/
def leftSample (f : Word) : Int := (f.extractLsb' 0 16).toInt

/-- The sample in a frame's right half (43_oscillator_mixer.md R152). -/
def rightSample (f : Word) : Int := (f.extractLsb' 16 16).toInt

/-! ### Observation -/

/-- Two voices no rule tells apart: equal, or both inactive (93 I18). -/
def Voice.Alike (v w : Voice) : Prop := v = w ∨ (v.active = false ∧ w.active = false)

/-- Two states the outside cannot tell apart by any further run: they differ at most in the records of
inactive voices (00_scope.md R14, 93 I18). -/
def State.Alike (s t : State) : Prop :=
  s.cfg = t.cfg ∧ s.map = t.map ∧ s.vol = t.vol ∧ s.maxn = t.maxn ∧ s.frame = t.frame ∧
    s.input = t.input ∧ s.output = t.output ∧ List.Forall₂ Voice.Alike s.voices t.voices

/-- A safe run of the CORE: every step answers a next state, and each keeps the invariant. The CORE has
no other way to fail (60_exceptions.md R190). -/
def SafeStep (s : State) : Prop := ∃ t, step s = .next t ∧ (s.Inv → t.Inv)

/-! ### Reserved bits -/

/-- The reserved-zero bits of an opcode's row, from the column of 30_encoding.md R72. -/
def reservedZero : Nat → Word
  | 0x0 => 0x0FFFFFFF
  | 0x1 => 0x0F008080
  | 0x2 => 0x0F0080FF
  | 0x3 => 0x0FFFFFFF
  | 0x4 => 0x0F0000FF
  | 0x5 => 0x0FFF80FF
  | 0x6 => 0x0F0080FF
  | 0x7 => 0x0F0080FF
  | 0x8 => 0x0FFF00FF
  | _ => 0

end Sys2Proof.Machine
end

