-- ==== Sys2Proof/Certificates/Slice0/Obligations.lean ====
section
/-! DEFINITION. The statements for the provers. Each docstring names the rules of spec/ it formalises. -/

open Sys2Proof Sys2Proof.Machine

/-! ### Reset, the step and the invariant -/

/-- R210, R37: a reset puts the CORE in the reset state, whatever state it was in, and leaves the
parameters and ROMs as they are. -/
def Obligations.ResetLeavesTheInertState : Prop :=
  ∀ (s : State) (rest : List Event), s.cfg.Legal → s.input = .rst :: rest →
    ∃ t, step s = .next t ∧ t.cfg = s.cfg ∧
      t.voices.length = s.cfg.nv ∧
      (∀ v ∈ t.voices, v.carInc = 0 ∧ v.modInc = 0 ∧ v.modDepth = 0 ∧ v.amp = 0 ∧ v.phase = 0 ∧
        v.modPhase = 0 ∧ v.level = 0 ∧ v.state = .idle ∧ v.active = false ∧ v.time = 0 ∧
        v.note = 0 ∧ v.channel = 0) ∧
      t.map.length = s.cfg.nv ∧ (∀ m ∈ t.map, m = s.cfg.mapReset) ∧
      t.vol = s.cfg.volReset ∧ t.maxn.toNat = s.cfg.nv ∧ t.frame = 0

/-- R37, R24, R20, R27: the reset state of every legal configuration keeps the invariant, and the
configuration of `State.reset` is legal (that configuration is the model's choice, log 3). -/
def Obligations.ResetStateKeepsTheInvariant : Prop :=
  (∀ c : Config, c.Legal → (State.resetOf c).Inv) ∧ exampleConfig.Legal ∧ State.reset.Inv

/-- R24, R20, R27, R152: every step keeps the invariant, from every state that has it. -/
def Obligations.EveryStepKeepsTheInvariant : Prop :=
  ∀ s t : State, s.Inv → step s = .next t → t.Inv

/-- R24: the four invariants hold in every state that any run under a legal configuration reaches. -/
def Obligations.ReachableStatesKeepTheVoiceRanges : Prop :=
  ∀ (c : Config) (s : State), c.Legal → Reachable c s → ∀ v ∈ s.voices,
    v.level.toNat ≤ 2 ^ 30 ∧ v.channel.toNat < c.nv ∧ v.note.toNat ≤ 127 ∧
      (v.active = true ↔ v.state ≠ .idle)

/-- R190: no fault and no refusal, in any state: `step` is total. -/
def Obligations.StepAlwaysAnswersANextState : Prop :=
  ∀ s : State, ∃ t, step s = .next t

/-- R11, R80, R210, R37: one step consumes one event and applies it whole; a command word that decodes
runs its instruction, and a reset gives the reset state. That a step reads its event from `input` is the
model's form (log 1), and so is that a reset keeps the events to come and the frames returned (log 5). -/
def Obligations.StepAppliesTheNextEvent : Prop :=
  ∀ (s : State) (rest : List Event),
    (∀ (w : Word) (i : Instr), s.input = .cmd w :: rest → decode w = .ok i →
      step s = exec i { s with input := rest }) ∧
    (∀ (w : Word) (r : IgnoreReason), s.input = .cmd w :: rest → decode w = .error r →
      step s = .next { s with input := rest }) ∧
    (s.input = .tick :: rest → step s = execTick { s with input := rest }) ∧
    (s.input = .rst :: rest →
      step s = .next { State.resetOf s.cfg with input := rest, output := s.output })

/-- R200: with no event the CORE holds its state (a step on an empty `input` is the model's form,
log 6). -/
def Obligations.PauseHoldsTheState : Prop :=
  ∀ s : State, s.input = [] → step s = .next s

/-- R61: a command and a tick at one instant: the tick uses the state the command left. -/
def Obligations.CommandAtTheSameInstantGoesFirst : Prop :=
  ∀ (s t u : State) (w : Word), s.input = [] → execCmd w s = .next t → execTick t = .next u →
    Sys2Proof.core.run 2 (s.deliver (sameInstant w)) = .next u

/-! ### Encoding -/

/-- R74: a word with a reserved opcode, or with a reserved-zero bit of R72 set, is ignored under its
name and changes no state but for being consumed. -/
def Obligations.ReservedWordsAreIgnored : Prop :=
  ∀ (s : State) (w : Word) (rest : List Event), s.input = .cmd w :: rest →
    (9 ≤ field w 31 28 →
      decode w = .error .reservedOpcode ∧ step s = .next { s with input := rest }) ∧
    (field w 31 28 ≤ 8 → w &&& reservedZero (field w 31 28) ≠ 0 →
      decode w = .error .reservedBits ∧ step s = .next { s with input := rest })

/-- R73: a word is command X exactly when it matches X's row. -/
def Obligations.WordIsTheCommandOfTheRowItMatches : Prop :=
  ∀ (w : Word) (op : Nat) (pattern mask : Word),
    (op, pattern, mask) ∈ ([(0x0, 0x00000000, 0xFFFFFFFF), (0x1, 0x10000000, 0xFF008080),
      (0x2, 0x20000000, 0xFF0080FF), (0x3, 0x30000000, 0xFFFFFFFF), (0x4, 0x40000000, 0xFF0000FF),
      (0x5, 0x50000000, 0xFFFF80FF), (0x6, 0x60000000, 0xFF0080FF), (0x7, 0x70000000, 0xFF0080FF),
      (0x8, 0x80000000, 0xFFFF00FF)] : List (Nat × Word × Word)) →
    ((∃ i, decode w = .ok i ∧ i.opcode = op) ↔ w &&& mask = pattern)

/-- R70, R71, R72, R73: decoding the word of a well-formed instruction gives it back. -/
def Obligations.DecodeOfEncodeIsTheInstruction : Prop :=
  ∀ i : Instr, i.WellFormed → decode (encode i) = .ok i

/-- R70, R71, R72, R73: a word that decodes is the word of the well-formed instruction it decodes to. -/
def Obligations.EncodeOfDecodeIsTheWord : Prop :=
  ∀ (w : Word) (i : Instr), decode w = .ok i → i.WellFormed ∧ encode i = w

/-- R81: the worked encodings. -/
def Obligations.WorkedEncodingsDecode : Prop :=
  decode 0x1000457F = .ok (.noteOn 0 69 127) ∧ decode 0x10023C7F = .ok (.noteOn 2 60 127) ∧
    decode 0x20004500 = .ok (.noteOff 0 69) ∧ decode 0x30000000 = .ok .allNotesOff ∧
    decode 0x40010300 = .ok (.setInstrument 1 3) ∧ decode 0x50003200 = .ok (.setVolume 50) ∧
    decode 0x60004000 = .ok (.alterVol 0 64) ∧ decode 0x70004800 = .ok (.alterPitch 0 72) ∧
    decode 0x80000600 = .ok (.setMaxNotes 6) ∧ decode 0x10004580 = .error .reservedBits ∧
    decode 0x90000000 = .error .reservedOpcode

/-! ### The commands -/

/-- R170: NOP leaves the state unchanged. -/
def Obligations.NopChangesNothing : Prop :=
  ∀ s : State, exec .nop s = .next s

/-- R191, R193: a command out of range is ignored, `ChannelRange` named before `InstrumentRange`. -/
def Obligations.OutOfRangeCommandsAreIgnored : Prop :=
  ∀ (s : State) (ch x y : Nat),
    (s.cfg.nv ≤ ch → ∀ i ∈ [Instr.noteOn ch x y, .noteOff ch x, .setInstrument ch x, .alterVol ch x,
        .alterPitch ch x], rangeReason s.cfg i = some .channelRange ∧ exec i s = .next s) ∧
    (ch < s.cfg.nv → s.cfg.ni ≤ x →
      rangeReason s.cfg (.setInstrument ch x) = some .instrumentRange ∧
        exec (.setInstrument ch x) s = .next s)

/-- R100, R101: the first inactive voice; with none, the oldest, the lowest index on a tie. -/
def Obligations.AllocateTakesTheFirstFreeElseTheOldest : Prop :=
  ∀ vs : List Voice, vs ≠ [] → ∃ v, vs[allocate vs]? = some v ∧
    ((∃ w ∈ vs, w.active = false) →
      v.active = false ∧ ∀ (j : Nat) (w : Voice), j < allocate vs → vs[j]? = some w → w.active = true) ∧
    ((∀ w ∈ vs, w.active = true) →
      (∀ w ∈ vs, w.time.toNat ≤ v.time.toNat) ∧
        ∀ (j : Nat) (w : Voice), j < allocate vs → vs[j]? = some w → w.time.toNat < v.time.toNat)

/-- R103: NOTE_ON writes every field of the allocated voice and nothing else; out of range it is
ignored. -/
def Obligations.NoteOnClaimsTheAllocatedVoice : Prop :=
  ∀ (s : State) (ch note vel : Nat), (Instr.noteOn ch note vel).WellFormed →
    (s.cfg.nv ≤ ch → exec (.noteOn ch note vel) s = .next s) ∧
    (ch < s.cfg.nv → s.voices.length = s.cfg.nv →
      ∃ (t : State) (v : Voice), exec (.noteOn ch note vel) s = .next t ∧ t = { s with voices := t.voices } ∧
        t.voices.length = s.voices.length ∧ t.voices[allocate s.voices]? = some v ∧
        (∀ j : Nat, j ≠ allocate s.voices → t.voices[j]? = s.voices[j]?) ∧
        v.carInc = pitchInc s.cfg.a440Inc (64 * note + (s.instrumentOf ch).pitchOffset.toInt) ∧
        v.modInc = modIncOf v.carInc (s.instrumentOf ch).fmMult ∧
        v.modDepth.toNat = (s.instrumentOf ch).fmAmpStart.toNat * vel / 127 ∧
        v.amp.toNat = (s.instrumentOf ch).loudness.toNat * vel / 127 ∧
        v.phase = 0 ∧ v.modPhase = 0 ∧ v.level = 0 ∧ v.state = .attack ∧ v.active = true ∧
        v.time = 0 ∧ v.note.toNat = note ∧ v.channel.toNat = ch)

/-- R108: NOTE_OFF sends the first match to Release, unless the sustain of the channel's instrument is
zero; nothing else changes. -/
def Obligations.NoteOffReleasesTheFirstMatch : Prop :=
  ∀ (s : State) (ch note : Nat), (Instr.noteOff ch note).WellFormed →
    (s.cfg.nv ≤ ch → exec (.noteOff ch note) s = .next s) ∧
    (ch < s.cfg.nv → (∀ v ∈ s.voices, ¬v.Plays ch note) → exec (.noteOff ch note) s = .next s) ∧
    (ch < s.cfg.nv → ∀ (i : Nat) (v : Voice), s.voices[i]? = some v → v.Plays ch note →
      (∀ (j : Nat) (w : Voice), j < i → s.voices[j]? = some w → ¬w.Plays ch note) →
      (effSus (s.instrumentOf ch).sustain = 0 → exec (.noteOff ch note) s = .next s) ∧
      (effSus (s.instrumentOf ch).sustain ≠ 0 → exec (.noteOff ch note) s =
        .next { s with voices := s.voices.set i { v with state := .release } }))

/-- R110: ALL_NOTES_OFF writes six fields of every voice and nothing else. -/
def Obligations.AllNotesOffSilencesEveryVoice : Prop :=
  ∀ s : State, ∃ t, exec .allNotesOff s = .next t ∧ t = { s with voices := t.voices } ∧
    t.voices.length = s.voices.length ∧
    ∀ (i : Nat) (v : Voice), s.voices[i]? = some v → t.voices[i]? = some
      { v with active := false, state := .idle, level := 0, time := 0, note := 0, channel := 0 }

/-- R111: ALL_NOTES_OFF is idempotent, writes no register, and the first Tick after it gives frame 0. -/
def Obligations.AllNotesOffIsIdempotent : Prop :=
  ∀ s t : State, exec .allNotesOff s = .next t →
    exec .allNotesOff t = .next t ∧ t.map = s.map ∧ t.vol = s.vol ∧ t.maxn = s.maxn ∧
      t.frame = s.frame ∧ ∃ u, execTick t = .next u ∧ u.frame = 0 ∧ u.voices = t.voices

/-- R172: SET_INSTRUMENT writes one map entry, after both checks. -/
def Obligations.SetInstrumentWritesTheMap : Prop :=
  ∀ (s : State) (ch idx : Nat), (Instr.setInstrument ch idx).WellFormed →
    (s.cfg.nv ≤ ch → exec (.setInstrument ch idx) s = .next s) ∧
    (s.cfg.ni ≤ idx → exec (.setInstrument ch idx) s = .next s) ∧
    (ch < s.cfg.nv → idx < s.cfg.ni → s.map.length = s.cfg.nv →
      ∃ (t : State) (m : Byte), exec (.setInstrument ch idx) s = .next t ∧ t = { s with map := t.map } ∧
        t.map.length = s.map.length ∧ t.map[ch]? = some m ∧ m.toNat = idx ∧
        ∀ c : Nat, c ≠ ch → t.map[c]? = s.map[c]?)

/-- R174: SET_VOLUME clamps the percent and scales it to 0..32768. -/
def Obligations.SetVolumeScalesTheClampedPercent : Prop :=
  ∀ (s : State) (pct : Nat), (Instr.setVolume pct).WellFormed →
    ∃ t, exec (.setVolume pct) s = .next t ∧ t = { s with vol := t.vol } ∧
      t.vol.toNat = min pct 100 * 32768 / 100 ∧ t.vol.toNat ≤ 32768

/-- R176: ALTER_VOL recomputes the gain of every active voice on the channel and changes nothing
else. -/
def Obligations.AlterVolRescalesTheChannel : Prop :=
  ∀ (s : State) (ch vel : Nat), (Instr.alterVol ch vel).WellFormed →
    (s.cfg.nv ≤ ch → exec (.alterVol ch vel) s = .next s) ∧
    (ch < s.cfg.nv → ∃ t, exec (.alterVol ch vel) s = .next t ∧ t = { s with voices := t.voices } ∧
      t.voices.length = s.voices.length ∧
      ∀ (i : Nat) (v : Voice), s.voices[i]? = some v → ∃ w : Voice, t.voices[i]? = some w ∧
        (v.SoundsOn ch → w = { v with amp := w.amp } ∧
          w.amp.toNat = (s.instrumentOf ch).loudness.toNat * vel / 127) ∧
        (¬v.SoundsOn ch → w = v))

/-- R177: ALTER_PITCH recomputes both increments of every active voice on the channel and changes
nothing else. -/
def Obligations.AlterPitchBendsTheChannel : Prop :=
  ∀ (s : State) (ch bend : Nat), (Instr.alterPitch ch bend).WellFormed →
    (s.cfg.nv ≤ ch → exec (.alterPitch ch bend) s = .next s) ∧
    (ch < s.cfg.nv → ∃ t, exec (.alterPitch ch bend) s = .next t ∧
      t = { s with voices := t.voices } ∧ t.voices.length = s.voices.length ∧
      ∀ (i : Nat) (v : Voice), s.voices[i]? = some v → ∃ w : Voice, t.voices[i]? = some w ∧
        (v.SoundsOn ch → w = { v with carInc := w.carInc, modInc := w.modInc } ∧
          w.carInc = pitchInc s.cfg.a440Inc (64 * v.note.toNat +
            (s.instrumentOf ch).pitchOffset.toInt + 16 * ((bend : Int) - 64)) ∧
          w.modInc = modIncOf w.carInc (s.instrumentOf ch).fmMult) ∧
        (¬v.SoundsOn ch → w = v))

/-- R178, case 2: the bend is not stored, so a second bend undoes the first. -/
def Obligations.BendsDoNotAdd : Prop :=
  ∀ (s t : State) (ch b c : Nat), exec (.alterPitch ch b) s = .next t →
    exec (.alterPitch ch c) t = exec (.alterPitch ch c) s

/-- R178, case 1: after a NOTE_ON, a bend of 64 on its channel leaves the claimed voice at the pitch
NOTE_ON gave it. -/
def Obligations.BendCentreKeepsTheNoteOnPitch : Prop :=
  ∀ (s t u : State) (ch note vel : Nat), (Instr.noteOn ch note vel).WellFormed →
    exec (.noteOn ch note vel) s = .next t → exec (.alterPitch ch 64) t = .next u →
    ch < s.cfg.nv → u.voices[allocate s.voices]? = t.voices[allocate s.voices]?

/-- R180: SET_MAX_NOTES clamps to 1..NV and writes nothing else. -/
def Obligations.SetMaxNotesClampsTheCeiling : Prop :=
  ∀ (s : State) (n : Nat), (Instr.setMaxNotes n).WellFormed → s.cfg.Legal →
    ∃ t, exec (.setMaxNotes n) s = .next t ∧ t = { s with maxn := t.maxn } ∧
      t.maxn.toNat = min (max n 1) s.cfg.nv

/-! ### The pitch unit and the ROMs -/

/-- R91: the increment from the octave and the step in the octave. -/
def Obligations.PitchIncFollowsOctaveAndStep : Prop :=
  ∀ (a : Word) (p o : Int) (k : Nat), k < 768 → p - 69 * 64 = 768 * o + k →
    (pitchInc a p).toNat =
      (if 0 ≤ o then a.toNat * freqRom k * 2 ^ o.toNat / 2 ^ 31
        else a.toNat * freqRom k / 2 ^ (31 - o).toNat) % 2 ^ 32

/-- R94, its first two points: A4 gives exactly `A440_INC`, and an octave up doubles the unreduced
increment, or doubles it and adds one. -/
def Obligations.PitchIncDoublesPerOctave : Prop :=
  ∀ (a : Word) (p : Int), pitchInc a (69 * 64) = a ∧
    (pitchIncRaw a (p + 768) = 2 * pitchIncRaw a p ∨ pitchIncRaw a (p + 768) = 2 * pitchIncRaw a p + 1)

/-- R53: the frequency ROM holds `round_half_up(2^31 * 2^(k/768))`, over the reals. -/
def Obligations.FreqRomHoldsTheRoundedExponential : Prop :=
  ∀ k : Nat, k < 768 →
    (freqRom k : ℤ) = ⌊(2 : ℝ) ^ (31 : ℕ) * (2 : ℝ) ^ ((k : ℝ) / 768) + 1 / 2⌋ ∧
      2147483648 ≤ freqRom k ∧ freqRom k < 2 ^ 32

/-- R51: the sine ROM holds `round_half_away(32767 * sin(2*pi*i / 2048))`, over the reals. -/
def Obligations.SineRomHoldsTheRoundedSine : Prop :=
  ∀ i : Nat, i < 2048 → ∀ x : ℝ, x = 32767 * Real.sin (2 * Real.pi * i / 2048) →
    sineRom i = (SignType.sign x : ℤ) * ⌊|x| + 1 / 2⌋

/-- R93: the modulator increment. -/
def Obligations.ModIncScalesTheCarrier : Prop :=
  ∀ (car : Word) (mult : Half), (modIncOf car mult).toNat = car.toNat * mult.toNat / 256 % 2 ^ 32 ∧
    (mult = 0 → modIncOf car mult = 0) ∧ (mult = 256 → modIncOf car mult = car)

/-- R57: the effective rate and sustain. -/
def Obligations.EffectiveValuesAreInRange : Prop :=
  ∀ r : Word, effRate r = (if r = 0 ∨ 2 ^ 30 < r.toNat then 2 ^ 30 else r.toNat) ∧
    1 ≤ effRate r ∧ effRate r ≤ 2 ^ 30 ∧ effSus r = min r.toNat (2 ^ 30)

/-! ### The envelope -/

/-- R121: an envelope step writes only level, state and active. -/
def Obligations.EnvStepWritesOnlyLevelStateActive : Prop :=
  ∀ (ins : Instrument) (v : Voice), envStep ins v =
    { v with level := (envStep ins v).level, state := (envStep ins v).state,
             active := (envStep ins v).active }

/-- R122: the Attack step, and the length of an Attack from level 0. -/
def Obligations.AttackRisesToFullScale : Prop :=
  ∀ (ins : Instrument) (v : Voice), v.state = .attack →
    (2 ^ 30 ≤ v.level.toNat + effRate ins.attackRate →
      envStep ins v = { v with level := 1073741824, state := .decay }) ∧
    (v.level.toNat + effRate ins.attackRate < 2 ^ 30 → ∃ l : Word,
      envStep ins v = { v with level := l } ∧ l.toNat = v.level.toNat + effRate ins.attackRate) ∧
    (v.level = 0 →
      (∀ n, n < ceilDiv (2 ^ 30) (effRate ins.attackRate) →
        (envRun ins n v).state = .attack ∧
          (envRun ins n v).level.toNat = n * effRate ins.attackRate) ∧
      envRun ins (ceilDiv (2 ^ 30) (effRate ins.attackRate)) v =
        { v with level := 1073741824, state := .decay })

/-- R123: the Decay step, and the length of a Decay from full scale. -/
def Obligations.DecayFallsToTheSustainLevel : Prop :=
  ∀ (ins : Instrument) (v : Voice) (sus drop : Nat), v.state = .decay → sus = effSus ins.sustain →
    drop = ceilDiv (effRate ins.decayRate * (2 ^ 30 - sus)) (2 ^ 30) →
    (v.level.toNat ≤ sus + drop → envStep ins v =
      { v with level := BitVec.ofNat 32 sus, state := if sus = 0 then .release else .sustain }) ∧
    (sus + drop < v.level.toNat → ∃ l : Word,
      envStep ins v = { v with level := l } ∧ l.toNat = v.level.toNat - drop) ∧
    (v.level.toNat = 2 ^ 30 →
      (∀ n, n < max 1 (ceilDiv (2 ^ 30 - sus) drop) →
        (envRun ins n v).state = .decay ∧ (envRun ins n v).level.toNat = 2 ^ 30 - n * drop) ∧
      envRun ins (max 1 (ceilDiv (2 ^ 30 - sus) drop)) v =
        { v with level := BitVec.ofNat 32 sus, state := if sus = 0 then .release else .sustain })

/-- R124: with zero sustain, the end of Decay goes to Release at level 0, and the next Tick to Idle. -/
def Obligations.ZeroSustainRunsOneReleaseTick : Prop :=
  ∀ (ins : Instrument) (v : Voice), v.state = .decay → effSus ins.sustain = 0 →
    v.level.toNat ≤ decayDrop ins →
    (envRun ins 1 v).state = .release ∧ (envRun ins 1 v).level = 0 ∧
      (envRun ins 2 v).state = .idle ∧ (envRun ins 2 v).active = false

/-- R125: Sustain holds the level at the sustain level of the instrument read now. -/
def Obligations.SustainHoldsTheSustainLevel : Prop :=
  ∀ (ins : Instrument) (v : Voice), v.state = .sustain → ∃ l : Word,
    envStep ins v = { v with level := l } ∧ l.toNat = effSus ins.sustain

/-- R126: the Release step, and the length of a Release from any level. -/
def Obligations.ReleaseFallsToIdle : Prop :=
  ∀ (ins : Instrument) (v : Voice) (rate : Nat), v.state = .release → rate = effRate ins.releaseRate →
    (v.level.toNat ≤ rate → envStep ins v = { v with level := 0, state := .idle, active := false }) ∧
    (rate < v.level.toNat → ∃ l : Word,
      envStep ins v = { v with level := l } ∧ l.toNat = v.level.toNat - rate) ∧
    (∀ n, n < max 1 (ceilDiv v.level.toNat rate) →
      (envRun ins n v).state = .release ∧ (envRun ins n v).level.toNat = v.level.toNat - n * rate) ∧
    envRun ins (max 1 (ceilDiv v.level.toNat rate)) v =
      { v with level := 0, state := .idle, active := false }

/-- R129: from NOTE_ON the envelope reaches Sustain or Idle, and from NOTE_OFF it reaches Idle, within
the bounds, while one instrument stays in place. -/
def Obligations.EnvelopeTerminates : Prop :=
  ∀ (ins : Instrument) (v : Voice),
    (v.state = .attack → v.level = 0 → ∃ n, n ≤ ceilDiv (2 ^ 30) (effRate ins.attackRate) +
        max 1 (ceilDiv (2 ^ 30 - effSus ins.sustain) (decayDrop ins)) + 1 ∧
      ((envRun ins n v).state = .sustain ∨ (envRun ins n v).state = .idle)) ∧
    (v.level.toNat ≤ 2 ^ 30 → ∃ n, n ≤ max 1 (ceilDiv v.level.toNat (effRate ins.releaseRate)) ∧
      n ≤ ceilDiv (2 ^ 30) (effRate ins.releaseRate) ∧
      (envRun ins n v.toRelease).state = .idle ∧ (envRun ins n v.toRelease).active = false)

/-- R131: the document's scenario. -/
def Obligations.ScenarioReachesSustainOnTime : Prop :=
  ∀ v : Voice, v = claimedVoice exampleConfig bankScenario 0 69 127 →
    (envRun bankScenario 2205 v).state = .decay ∧
      (envRun bankScenario 2205 v).level.toNat = 2 ^ 30 ∧
      (envRun bankScenario 15434 v).state = .decay ∧
      (envRun bankScenario 15435 v).state = .sustain ∧
      (envRun bankScenario 15435 v).level.toNat = 644245094

/-! ### The Tick -/

/-- R161, R154: every voice is visited once, by a visit that depends on no other voice; the frame is
the quantized sum of the contributions; nothing else changes. -/
def Obligations.TickVisitsEveryVoiceAndMixes : Prop :=
  ∀ s : State, ∃ t, execTick s = .next t ∧
    t = { s with voices := t.voices, frame := t.frame, output := s.output ++ [t.frame] } ∧
    t.voices.length = s.voices.length ∧
    (∀ (i : Nat) (v : Voice), s.voices[i]? = some v →
      t.voices[i]? = some (voiceTick (s.instrumentOf v.channel.toNat) s.vol v).1) ∧
    t.frame = frameOf (quantize
      (s.voices.map fun v => (voiceTick (s.instrumentOf v.channel.toNat) s.vol v).2).sum)

/-- R141, R142, R143, R144, R145, R161: one visit. An inactive voice is left alone; an active one
counts the Tick and steps its envelope; if it went Idle it runs no oscillator; otherwise both phases
advance and the contribution is floored after each product. -/
def Obligations.VoiceVisitFollowsTheDatapath : Prop :=
  ∀ (ins : Instrument) (vol : Half) (v e : Voice),
    e = envStep ins { v with time := BitVec.ofNat 32 (min (v.time.toNat + 1) (2 ^ 32 - 1)) } →
    (v.active = false → voiceTick ins vol v = (v, 0)) ∧
    (v.active = true → e.active = false → voiceTick ins vol v = (e, 0)) ∧
    (v.active = true → e.active = true → ∃ w c, voiceTick ins vol v = (w, c) ∧
      w = { e with modPhase := w.modPhase, phase := w.phase } ∧
      w.modPhase.toNat = (v.modPhase.toNat + v.modInc.toNat) % 2 ^ 32 ∧
      (w.phase.toNat : Int) = (v.phase.toNat + v.carInc.toNat +
        v.modDepth.toNat * sineRom (w.modPhase.toNat / 2 ^ 21) / 2 ^ 15) % 2 ^ 32 ∧
      c = sineRom (w.phase.toNat / 2 ^ 21) * v.amp.toNat / 2 ^ 15 *
        (e.level.toNat / 2 ^ 15 : Nat) / 2 ^ 15 * vol.toNat / 2 ^ 15)

/-- R163: what a Tick does not do: it reads no MAXN, writes no MAP, VOL or MAXN and six of the voice
fields not at all, and claims no voice. -/
def Obligations.TickLeavesControlStateAlone : Prop :=
  ∀ s t : State, execTick s = .next t →
    (∀ m : Count, execTick { s with maxn := m } = .next { t with maxn := m }) ∧
    t.map = s.map ∧ t.vol = s.vol ∧ t.maxn = s.maxn ∧
    ∀ (i : Nat) (v w : Voice), s.voices[i]? = some v → t.voices[i]? = some w →
      w.carInc = v.carInc ∧ w.modInc = v.modInc ∧ w.modDepth = v.modDepth ∧ w.amp = v.amp ∧
        w.note = v.note ∧ w.channel = v.channel ∧ (w.active = true → v.active = true)

/-- R153, R152: every Tick's sample is in −32767..32767, the same in both halves; it is 0 at volume 0
and with no active voice. -/
def Obligations.OutputIsClampedAndSilentWhenItMust : Prop :=
  ∀ s t : State, execTick s = .next t →
    (-32767 ≤ leftSample t.frame ∧ leftSample t.frame ≤ 32767 ∧
      rightSample t.frame = leftSample t.frame) ∧
    (s.vol = 0 → t.frame = 0) ∧
    ((∀ v ∈ s.voices, v.active = false) → t.frame = 0 ∧ t.voices = s.voices)

/-- R145, R150: the range of one contribution and of the sum over a pool that keeps the invariant. The
spec prints -65533..65532 beside R145 and 65533*NV beside R150; its own formulas reach -65534 and 65533
(95_test_vectors.md 2.7 has 65533), and this statement follows the formulas (log 19). -/
def Obligations.ContributionAndSumAreBounded : Prop :=
  (∀ (sc : Int) (amp vol : Half) (level : Word), -32767 ≤ sc → sc ≤ 32767 →
    level.toNat ≤ 2 ^ 30 → vol.toNat ≤ 32768 →
    -65534 ≤ contributionOf sc amp level vol ∧ contributionOf sc amp level vol ≤ 65533) ∧
  (∀ (s : State) (acc : Int), s.Inv →
    acc = (s.voices.map fun v => (voiceTick (s.instrumentOf v.channel.toNat) s.vol v).2).sum →
    -(65534 * s.cfg.nv) ≤ acc ∧ acc ≤ 65533 * s.cfg.nv ∧ |acc| < 2 ^ 25)

/-- R146, cases 1 to 5: what contributes 0, and a small negative product that floors to −1. -/
def Obligations.SilentVoicesContributeZero : Prop :=
  (∀ (sc : Int) (amp vol : Half) (level : Word),
    vol = 0 ∨ amp = 0 ∨ level.toNat < 2 ^ 15 ∨ sc = 0 → contributionOf sc amp level vol = 0) ∧
  contributionOf (-1) 1 1073741824 32768 = -1

/-- R151: the clamper and quantizer: toward zero, in −32767..32767, never −32768. -/
def Obligations.QuantizerClampsAndTruncates : Prop :=
  ∀ acc x : Int, x = min (max acc (-32768)) 32768 →
    (0 ≤ x → (quantize acc).toInt = x * 32767 / 32768) ∧
    (x < 0 → (quantize acc).toInt = -(-x * 32767 / 32768)) ∧
    -32767 ≤ (quantize acc).toInt ∧ (quantize acc).toInt ≤ 32767

/-! ### Whole-machine rules -/

/-- R66: no event writes the ROMs or the parameters. -/
def Obligations.NoStepWritesTheRoms : Prop :=
  ∀ s t : State, step s = .next t → t.cfg = s.cfg

/-- R31, R210: FRAME changes, and a frame is returned, only at a Tick; a reset may also change FRAME,
and returns no frame. -/
def Obligations.OnlyTickAndResetChangeTheFrame : Prop :=
  ∀ s t : State, step s = .next t →
    (t.frame ≠ s.frame → s.input.head? = some .tick ∨ s.input.head? = some .rst) ∧
    (t.output ≠ s.output → s.input.head? = some .tick) ∧
    (s.input.head? = some .tick → t.output = s.output ++ [t.frame])

/-- R33: `max_notes_out` shows MAXN and changes only when SET_MAX_NOTES or reset writes it. -/
def Obligations.OnlySetMaxNotesAndResetMoveTheCeilingPort : Prop :=
  ∀ s t : State, step s = .next t → t.maxNotesOut = t.maxn ∧
    (t.maxNotesOut ≠ s.maxNotesOut → s.input.head? = some .rst ∨
      ∃ w n, s.input.head? = some (.cmd w) ∧ decode w = .ok (.setMaxNotes n))

/-- R197: a command writes V, MAP, VOL and MAXN at most: never FRAME, the frames returned, the events to
come or the parameters. -/
def Obligations.CommandsWriteOnlyControlState : Prop :=
  ∀ (i : Instr) (s t : State), exec i s = .next t →
    t.frame = s.frame ∧ t.output = s.output ∧ t.input = s.input ∧ t.cfg = s.cfg ∧
      t.voices.length = s.voices.length ∧ t.map.length = s.map.length

/-- R30, R227: MAXN is advisory: a step from a state with another MAXN differs in MAXN only, and not at
all where the step writes MAXN. -/
def Obligations.CeilingIsAdvisory : Prop :=
  ∀ (s t : State) (m : Count), step s = .next t →
    step { s with maxn := m } = .next { t with maxn := m } ∨ step { s with maxn := m } = .next t

/-- R14, 93 I18: the records of inactive voices cannot be observed: two states that differ in nothing
else stay so, and return the same frames, whatever events follow. -/
def Obligations.InactiveVoiceRecordsAreUnobservable : Prop :=
  ∀ s t s' : State, s.Alike t → step s = .next s' → ∃ t', step t = .next t' ∧ s'.Alike t'

/-! ### The builder and the assembler -/

/-- R55: the nine image words of an entry hold the entry. -/
def Obligations.RomImageHoldsTheEntry : Prop :=
  ∀ ins : Instrument, (imageOf ins).length = 9 ∧ ofImage (imageOf ins) = some ins

/-- R56, R57: a positive time becomes a rate the CORE uses as it is, and a zero or negative time the
fastest one. -/
def Obligations.BuiltRatesAreEffective : Prop :=
  ∀ (t : Rat) (fs : Nat), 0 < fs →
    (0 < t → effRate (rateOf t fs) = (rateOf t fs).toNat ∧ 1 ≤ (rateOf t fs).toNat) ∧
    (t ≤ 0 → effRate (rateOf t fs) = 2 ^ 30)

/-- R78: the pseudo-instructions. -/
def Obligations.PseudoInstructionsExpand : Prop :=
  ∀ ch note n : Nat, expand (.noteOnDefault ch note) = expand (.instr (.noteOn ch note 127)) ∧
    expand (.bendCenter ch) = expand (.instr (.alterPitch ch 64)) ∧
    expand (.ticks n) = some (List.replicate n .tick)

/-- R77: the assembler refuses an operand too wide for its field and nothing else, and what it emits
decodes to the instruction. -/
def Obligations.AssemblerRefusesExactlyWideOperands : Prop :=
  ∀ i : Instr, (assemble i = none ↔ ¬i.WellFormed) ∧
    ∀ es, assemble i = some es → ∃ w, es = [.cmd w] ∧ decode w = .ok i
end

