-- ==== Sys2Proof/Laws/Arith.lean ====
section
/-! SUPPORT. The small facts about the arithmetic primitives and the scalings: where a narrowing loses
nothing. -/

namespace Sys2Proof.Machine

/-! ### Halves of a word -/

@[simp] theorem wordOfHalves_low (hi lo : Half) : (wordOfHalves hi lo).extractLsb' 0 16 = lo := by
  apply BitVec.eq_of_getLsbD_eq
  intro i h
  simp only [wordOfHalves, BitVec.getLsbD_extractLsb', BitVec.getLsbD_append, h]
  simp [h]

@[simp] theorem wordOfHalves_high (hi lo : Half) : (wordOfHalves hi lo).extractLsb' 16 16 = hi := by
  apply BitVec.eq_of_getLsbD_eq
  intro i h
  simp only [wordOfHalves, BitVec.getLsbD_extractLsb', BitVec.getLsbD_append, h]
  simp

theorem frameOf_low (out : Half) : (frameOf out).extractLsb' 0 16 = out := wordOfHalves_low ..

theorem frameOf_high (out : Half) : (frameOf out).extractLsb' 16 16 = out := wordOfHalves_high ..

/-! ### Velocity scalings -/

/-- A velocity of at most 127 scales a value to no more than itself. -/
theorem scaleByVelocity_le (x : Nat) {vel : Nat} (h : vel < 128) : scaleByVelocity x vel ≤ x := by
  unfold scaleByVelocity
  exact Nat.div_le_of_le_mul (by nlinarith)

theorem ampOf_toNat (ins : Instrument) {vel : Nat} (h : vel < 128) :
    (ampOf ins vel).toNat = ins.loudness.toNat * vel / 127 := by
  have := scaleByVelocity_le ins.loudness.toNat h
  simp only [ampOf, BitVec.toNat_ofNat]
  exact Nat.mod_eq_of_lt (this.trans_lt ins.loudness.isLt)

theorem modDepthOf_toNat (ins : Instrument) {vel : Nat} (h : vel < 128) :
    (modDepthOf ins vel).toNat = ins.fmAmpStart.toNat * vel / 127 := by
  have := scaleByVelocity_le ins.fmAmpStart.toNat h
  simp only [modDepthOf, BitVec.toNat_ofNat]
  exact Nat.mod_eq_of_lt (this.trans_lt ins.fmAmpStart.isLt)

theorem volumeOf_toNat (pct : Nat) : (volumeOf pct).toNat = min pct 100 * 32768 / 100 := by
  simp only [volumeOf, BitVec.toNat_ofNat]
  omega

theorem ceilingOf_toNat (n : Nat) {nv : Nat} (h : nv ≤ 256) :
    (ceilingOf n nv).toNat = min (max n 1) nv := by
  simp only [ceilingOf, clampNat, BitVec.toNat_ofNat]
  omega

/-! ### Effective values -/

theorem effRate_pos (r : Word) : 1 ≤ effRate r := by
  unfold effRate levelOne; split <;> omega

theorem effRate_le (r : Word) : effRate r ≤ levelOne := by
  unfold effRate; split <;> omega

theorem effSus_le (r : Word) : effSus r ≤ levelOne := Nat.min_le_right ..

/-! ### Ceiling division -/

/-- The ceiling is the least number of steps of size `b` that cover `a`. -/
theorem ceilDiv_le_iff {a b n : Nat} (h : 0 < b) : ceilDiv a b ≤ n ↔ a ≤ n * b := by
  unfold ceilDiv
  rw [Nat.div_le_iff_le_mul_add_pred h, Nat.mul_comm b n]
  omega

theorem lt_ceilDiv_iff {a b n : Nat} (h : 0 < b) : n < ceilDiv a b ↔ n * b < a := by
  have := ceilDiv_le_iff (a := a) (n := n) h
  omega

@[simp] theorem ceilDiv_zero (a : Nat) : ceilDiv a 0 = 0 := by simp [ceilDiv]

end Sys2Proof.Machine
end

