-- ==== Sys2Proof/Laws/WellFormed.lean ====
section
/-! SUPPORT. What the check says of each instruction, as bounds on its operands. -/

namespace Sys2Proof

variable (ch note vel idx pct bend n : Nat)

@[simp] theorem wf_nop : Instr.nop.WellFormed := rfl

@[simp] theorem wf_allNotesOff : Instr.allNotesOff.WellFormed := rfl

@[simp] theorem wf_noteOn :
    (Instr.noteOn ch note vel).WellFormed ↔ ch < 256 ∧ note < 128 ∧ vel < 128 := by
  simp [Instr.WellFormed, Instr.wf, fitsByte, fitsSeven, and_assoc]

@[simp] theorem wf_noteOff : (Instr.noteOff ch note).WellFormed ↔ ch < 256 ∧ note < 128 := by
  simp [Instr.WellFormed, Instr.wf, fitsByte, fitsSeven]

@[simp] theorem wf_setInstrument : (Instr.setInstrument ch idx).WellFormed ↔ ch < 256 ∧ idx < 256 := by
  simp [Instr.WellFormed, Instr.wf, fitsByte]

@[simp] theorem wf_setVolume : (Instr.setVolume pct).WellFormed ↔ pct < 128 := by
  simp [Instr.WellFormed, Instr.wf, fitsSeven]

@[simp] theorem wf_alterVol : (Instr.alterVol ch vel).WellFormed ↔ ch < 256 ∧ vel < 128 := by
  simp [Instr.WellFormed, Instr.wf, fitsByte, fitsSeven]

@[simp] theorem wf_alterPitch : (Instr.alterPitch ch bend).WellFormed ↔ ch < 256 ∧ bend < 128 := by
  simp [Instr.WellFormed, Instr.wf, fitsByte, fitsSeven]

@[simp] theorem wf_setMaxNotes : (Instr.setMaxNotes n).WellFormed ↔ n < 256 := by
  simp [Instr.WellFormed, Instr.wf, fitsByte]

end Sys2Proof
end

