-- ==== Sys2Proof/Laws/Decode.lean ====
section
/-! SUPPORT. A command word as its four bytes: the mask test of 30_encoding.md R73 byte by byte, and the
fields of R70 as the bytes' numbers. -/

namespace Sys2Proof

/-- The word of four bytes, the most significant first. -/
def ofBytes (a b c d : Byte) : Word := (a ++ b ++ c ++ d : BitVec (8 + 8 + 8 + 8))

theorem ofBytes_toNat (a b c d : Byte) :
    (ofBytes a b c d).toNat = a.toNat * 2 ^ 24 + b.toNat * 2 ^ 16 + c.toNat * 2 ^ 8 + d.toNat := by
  have ha := a.isLt; have hb := b.isLt; have hc := c.isLt; have hd := d.isLt
  unfold ofBytes
  simp only [BitVec.toNat_append]
  rw [← Nat.shiftLeft_add_eq_or_of_lt (by omega), ← Nat.shiftLeft_add_eq_or_of_lt (by omega),
    ← Nat.shiftLeft_add_eq_or_of_lt (by omega)]
  simp only [Nat.shiftLeft_eq]
  omega

/-- Every word is four bytes. -/
theorem exists_bytes (w : Word) : ∃ a b c d, w = ofBytes a b c d := by
  refine ⟨BitVec.ofNat 8 (w.toNat / 2 ^ 24), BitVec.ofNat 8 (w.toNat / 2 ^ 16),
    BitVec.ofNat 8 (w.toNat / 2 ^ 8), BitVec.ofNat 8 w.toNat, BitVec.eq_of_toNat_eq ?_⟩
  have := w.isLt
  rw [ofBytes_toNat]
  simp only [BitVec.toNat_ofNat]
  omega

theorem ofBytes_inj {a b c d a' b' c' d' : Byte} :
    ofBytes a b c d = ofBytes a' b' c' d' ↔ a = a' ∧ b = b' ∧ c = c' ∧ d = d' := by
  constructor
  · intro h
    have h := congrArg BitVec.toNat h
    rw [ofBytes_toNat, ofBytes_toNat] at h
    have := a.isLt; have := b.isLt; have := c.isLt; have := d.isLt
    have := a'.isLt; have := b'.isLt; have := c'.isLt; have := d'.isLt
    refine ⟨?_, ?_, ?_, ?_⟩ <;> apply BitVec.eq_of_toNat_eq <;> omega
  · rintro ⟨rfl, rfl, rfl, rfl⟩; rfl

theorem ofBytes_and (a b c d a' b' c' d' : Byte) :
    ofBytes a b c d &&& ofBytes a' b' c' d' =
      ofBytes (a &&& a') (b &&& b') (c &&& c') (d &&& d') := by
  apply BitVec.eq_of_getLsbD_eq
  intro i hi
  simp only [ofBytes, BitVec.getLsbD_and, BitVec.getLsbD_append]
  split <;> (try split) <;> (try split) <;> rfl

/-! ### Masks of one byte -/

theorem and_high_bit (b : Byte) : b &&& 0x80 = 0 ↔ b.toNat < 128 := by
  revert b; decide

theorem and_all_ones (b p : Byte) : b &&& 0xFF = p ↔ b = p := by
  rw [show (0xFF : Byte) = BitVec.allOnes 8 from rfl, BitVec.and_allOnes]

theorem and_no_ones (b : Byte) : b &&& 0x00 = 0 ↔ True := by simp

/-! ### Fields of four bytes -/

theorem field_op (a b c d : Byte) : field (ofBytes a b c d) 31 28 = a.toNat / 16 := by
  have := a.isLt; have := b.isLt; have := c.isLt; have := d.isLt
  simp only [field, ofBytes_toNat]; omega

theorem field_a (a b c d : Byte) : field (ofBytes a b c d) 23 16 = b.toNat := by
  have := a.isLt; have := b.isLt; have := c.isLt; have := d.isLt
  simp only [field, ofBytes_toNat]; omega

theorem field_b8 (a b c d : Byte) : field (ofBytes a b c d) 15 8 = c.toNat := by
  have := a.isLt; have := b.isLt; have := c.isLt; have := d.isLt
  simp only [field, ofBytes_toNat]; omega

theorem field_b7 (a b c d : Byte) : field (ofBytes a b c d) 14 8 = c.toNat % 128 := by
  have := a.isLt; have := b.isLt; have := c.isLt; have := d.isLt
  simp only [field, ofBytes_toNat]; omega

theorem field_c7 (a b c d : Byte) : field (ofBytes a b c d) 6 0 = d.toNat % 128 := by
  have := a.isLt; have := b.isLt; have := c.isLt; have := d.isLt
  simp only [field, ofBytes_toNat]; omega

/-! ### The rows -/

/-- Each row of R73 as bytes. -/
theorem encodingRow_bytes {op : Nat} {p m : Word} (h : encodingRow op = some (p, m)) :
    op ≤ 8 ∧ ∃ mb mc md : Byte, m = ofBytes 0xFF mb mc md ∧
      p = ofBytes (BitVec.ofNat 8 (op * 16)) 0 0 0 := by
  unfold encodingRow at h
  split at h <;> simp only [Option.some.injEq, Prod.mk.injEq, reduceCtorEq] at h <;>
    obtain ⟨rfl, rfl⟩ := h
  · exact ⟨by decide, 0xFF, 0xFF, 0xFF, by decide, by decide⟩
  · exact ⟨by decide, 0x00, 0x80, 0x80, by decide, by decide⟩
  · exact ⟨by decide, 0x00, 0x80, 0xFF, by decide, by decide⟩
  · exact ⟨by decide, 0xFF, 0xFF, 0xFF, by decide, by decide⟩
  · exact ⟨by decide, 0x00, 0x00, 0xFF, by decide, by decide⟩
  · exact ⟨by decide, 0xFF, 0x80, 0xFF, by decide, by decide⟩
  · exact ⟨by decide, 0x00, 0x80, 0xFF, by decide, by decide⟩
  · exact ⟨by decide, 0x00, 0x80, 0xFF, by decide, by decide⟩
  · exact ⟨by decide, 0xFF, 0x00, 0xFF, by decide, by decide⟩

/-- The word of an opcode and three operand bytes that fit. -/
theorem commandWord_eq {op a b c : Nat} (ha : a < 256) (hb : b < 256) (hc : c < 256) :
    commandWord op a b c = ofBytes (BitVec.ofNat 8 (op * 16)) (BitVec.ofNat 8 a) (BitVec.ofNat 8 b)
      (BitVec.ofNat 8 c) := by
  apply BitVec.eq_of_toNat_eq
  rw [ofBytes_toNat]
  simp only [commandWord, BitVec.toNat_ofNat]
  omega

/-- A word that matches a row has the row's opcode in its top nibble. -/
theorem opcode_of_match {w p m : Word} {op : Nat} (h : encodingRow op = some (p, m))
    (hm : w &&& m = p) : field w 31 28 = op := by
  obtain ⟨hop, mb, mc, md, rfl, rfl⟩ := encodingRow_bytes h
  obtain ⟨a, b, c, d, rfl⟩ := exists_bytes w
  rw [ofBytes_and, ofBytes_inj, and_all_ones] at hm
  rw [field_op, hm.1, BitVec.toNat_ofNat]
  omega

end Sys2Proof
end

