-- ==== Sys2Proof/Laws/State.lean ====
section
/-! SUPPORT. One lemma per field of the state and per update, and per field of a voice and per update of
it, each true by rfl, so that no later proof unfolds a record update. -/

namespace Sys2Proof.Machine

variable (s : State) (v : Voice)

/-! ### `setVoices` -/

@[simp] theorem setVoices_cfg (vs : List Voice) : (s.setVoices vs).cfg = s.cfg := rfl
@[simp] theorem setVoices_voices (vs : List Voice) : (s.setVoices vs).voices = vs := rfl
@[simp] theorem setVoices_map (vs : List Voice) : (s.setVoices vs).map = s.map := rfl
@[simp] theorem setVoices_vol (vs : List Voice) : (s.setVoices vs).vol = s.vol := rfl
@[simp] theorem setVoices_maxn (vs : List Voice) : (s.setVoices vs).maxn = s.maxn := rfl
@[simp] theorem setVoices_frame (vs : List Voice) : (s.setVoices vs).frame = s.frame := rfl
@[simp] theorem setVoices_input (vs : List Voice) : (s.setVoices vs).input = s.input := rfl
@[simp] theorem setVoices_output (vs : List Voice) : (s.setVoices vs).output = s.output := rfl

/-! ### `setMap` -/

@[simp] theorem setMap_cfg (m : List Byte) : (s.setMap m).cfg = s.cfg := rfl
@[simp] theorem setMap_voices (m : List Byte) : (s.setMap m).voices = s.voices := rfl
@[simp] theorem setMap_map (m : List Byte) : (s.setMap m).map = m := rfl
@[simp] theorem setMap_vol (m : List Byte) : (s.setMap m).vol = s.vol := rfl
@[simp] theorem setMap_maxn (m : List Byte) : (s.setMap m).maxn = s.maxn := rfl
@[simp] theorem setMap_frame (m : List Byte) : (s.setMap m).frame = s.frame := rfl
@[simp] theorem setMap_input (m : List Byte) : (s.setMap m).input = s.input := rfl
@[simp] theorem setMap_output (m : List Byte) : (s.setMap m).output = s.output := rfl

/-! ### `setVol` -/

@[simp] theorem setVol_cfg (x : Half) : (s.setVol x).cfg = s.cfg := rfl
@[simp] theorem setVol_voices (x : Half) : (s.setVol x).voices = s.voices := rfl
@[simp] theorem setVol_map (x : Half) : (s.setVol x).map = s.map := rfl
@[simp] theorem setVol_vol (x : Half) : (s.setVol x).vol = x := rfl
@[simp] theorem setVol_maxn (x : Half) : (s.setVol x).maxn = s.maxn := rfl
@[simp] theorem setVol_frame (x : Half) : (s.setVol x).frame = s.frame := rfl
@[simp] theorem setVol_input (x : Half) : (s.setVol x).input = s.input := rfl
@[simp] theorem setVol_output (x : Half) : (s.setVol x).output = s.output := rfl

/-! ### `setMaxn` -/

@[simp] theorem setMaxn_cfg (n : Count) : (s.setMaxn n).cfg = s.cfg := rfl
@[simp] theorem setMaxn_voices (n : Count) : (s.setMaxn n).voices = s.voices := rfl
@[simp] theorem setMaxn_map (n : Count) : (s.setMaxn n).map = s.map := rfl
@[simp] theorem setMaxn_vol (n : Count) : (s.setMaxn n).vol = s.vol := rfl
@[simp] theorem setMaxn_maxn (n : Count) : (s.setMaxn n).maxn = n := rfl
@[simp] theorem setMaxn_frame (n : Count) : (s.setMaxn n).frame = s.frame := rfl
@[simp] theorem setMaxn_input (n : Count) : (s.setMaxn n).input = s.input := rfl
@[simp] theorem setMaxn_output (n : Count) : (s.setMaxn n).output = s.output := rfl

/-! ### `emitFrame` -/

@[simp] theorem emitFrame_cfg (f : Word) : (s.emitFrame f).cfg = s.cfg := rfl
@[simp] theorem emitFrame_voices (f : Word) : (s.emitFrame f).voices = s.voices := rfl
@[simp] theorem emitFrame_map (f : Word) : (s.emitFrame f).map = s.map := rfl
@[simp] theorem emitFrame_vol (f : Word) : (s.emitFrame f).vol = s.vol := rfl
@[simp] theorem emitFrame_maxn (f : Word) : (s.emitFrame f).maxn = s.maxn := rfl
@[simp] theorem emitFrame_frame (f : Word) : (s.emitFrame f).frame = f := rfl
@[simp] theorem emitFrame_input (f : Word) : (s.emitFrame f).input = s.input := rfl
@[simp] theorem emitFrame_output (f : Word) : (s.emitFrame f).output = s.output ++ [f] := rfl

/-! ### `setInput` -/

@[simp] theorem setInput_cfg (es : List Event) : (s.setInput es).cfg = s.cfg := rfl
@[simp] theorem setInput_voices (es : List Event) : (s.setInput es).voices = s.voices := rfl
@[simp] theorem setInput_map (es : List Event) : (s.setInput es).map = s.map := rfl
@[simp] theorem setInput_vol (es : List Event) : (s.setInput es).vol = s.vol := rfl
@[simp] theorem setInput_maxn (es : List Event) : (s.setInput es).maxn = s.maxn := rfl
@[simp] theorem setInput_frame (es : List Event) : (s.setInput es).frame = s.frame := rfl
@[simp] theorem setInput_input (es : List Event) : (s.setInput es).input = es := rfl
@[simp] theorem setInput_output (es : List Event) : (s.setInput es).output = s.output := rfl

/-! ### Reset -/

@[simp] theorem applyReset_cfg : s.applyReset.cfg = s.cfg := rfl
@[simp] theorem applyReset_voices : s.applyReset.voices = List.replicate s.cfg.nv Voice.inert := rfl
@[simp] theorem applyReset_map : s.applyReset.map = List.replicate s.cfg.nv s.cfg.mapReset := rfl
@[simp] theorem applyReset_vol : s.applyReset.vol = s.cfg.volReset := rfl
@[simp] theorem applyReset_maxn : s.applyReset.maxn = BitVec.ofNat 9 s.cfg.nv := rfl
@[simp] theorem applyReset_frame : s.applyReset.frame = 0 := rfl
@[simp] theorem applyReset_input : s.applyReset.input = s.input := rfl
@[simp] theorem applyReset_output : s.applyReset.output = s.output := rfl

@[simp] theorem resetOf_cfg (c : Config) : (State.resetOf c).cfg = c := rfl
@[simp] theorem resetOf_voices (c : Config) : (State.resetOf c).voices = List.replicate c.nv Voice.inert := rfl
@[simp] theorem resetOf_map (c : Config) : (State.resetOf c).map = List.replicate c.nv c.mapReset := rfl
@[simp] theorem resetOf_vol (c : Config) : (State.resetOf c).vol = c.volReset := rfl
@[simp] theorem resetOf_maxn (c : Config) : (State.resetOf c).maxn = BitVec.ofNat 9 c.nv := rfl
@[simp] theorem resetOf_frame (c : Config) : (State.resetOf c).frame = 0 := rfl
@[simp] theorem resetOf_input (c : Config) : (State.resetOf c).input = [] := rfl
@[simp] theorem resetOf_output (c : Config) : (State.resetOf c).output = [] := rfl

/-! ### `Voice.toRelease` -/

@[simp] theorem Voice.toRelease_carInc : v.toRelease.carInc = v.carInc := rfl
@[simp] theorem Voice.toRelease_modInc : v.toRelease.modInc = v.modInc := rfl
@[simp] theorem Voice.toRelease_modDepth : v.toRelease.modDepth = v.modDepth := rfl
@[simp] theorem Voice.toRelease_amp : v.toRelease.amp = v.amp := rfl
@[simp] theorem Voice.toRelease_phase : v.toRelease.phase = v.phase := rfl
@[simp] theorem Voice.toRelease_modPhase : v.toRelease.modPhase = v.modPhase := rfl
@[simp] theorem Voice.toRelease_level : v.toRelease.level = v.level := rfl
@[simp] theorem Voice.toRelease_state : v.toRelease.state = .release := rfl
@[simp] theorem Voice.toRelease_active : v.toRelease.active = v.active := rfl
@[simp] theorem Voice.toRelease_time : v.toRelease.time = v.time := rfl
@[simp] theorem Voice.toRelease_note : v.toRelease.note = v.note := rfl
@[simp] theorem Voice.toRelease_channel : v.toRelease.channel = v.channel := rfl

/-! ### `Voice.silence` -/

@[simp] theorem Voice.silence_carInc : v.silence.carInc = v.carInc := rfl
@[simp] theorem Voice.silence_modInc : v.silence.modInc = v.modInc := rfl
@[simp] theorem Voice.silence_modDepth : v.silence.modDepth = v.modDepth := rfl
@[simp] theorem Voice.silence_amp : v.silence.amp = v.amp := rfl
@[simp] theorem Voice.silence_phase : v.silence.phase = v.phase := rfl
@[simp] theorem Voice.silence_modPhase : v.silence.modPhase = v.modPhase := rfl
@[simp] theorem Voice.silence_level : v.silence.level = 0 := rfl
@[simp] theorem Voice.silence_state : v.silence.state = .idle := rfl
@[simp] theorem Voice.silence_active : v.silence.active = false := rfl
@[simp] theorem Voice.silence_time : v.silence.time = 0 := rfl
@[simp] theorem Voice.silence_note : v.silence.note = 0 := rfl
@[simp] theorem Voice.silence_channel : v.silence.channel = 0 := rfl

/-! ### `Voice.toIdle` -/

@[simp] theorem Voice.toIdle_carInc : v.toIdle.carInc = v.carInc := rfl
@[simp] theorem Voice.toIdle_modInc : v.toIdle.modInc = v.modInc := rfl
@[simp] theorem Voice.toIdle_modDepth : v.toIdle.modDepth = v.modDepth := rfl
@[simp] theorem Voice.toIdle_amp : v.toIdle.amp = v.amp := rfl
@[simp] theorem Voice.toIdle_phase : v.toIdle.phase = v.phase := rfl
@[simp] theorem Voice.toIdle_modPhase : v.toIdle.modPhase = v.modPhase := rfl
@[simp] theorem Voice.toIdle_level : v.toIdle.level = 0 := rfl
@[simp] theorem Voice.toIdle_state : v.toIdle.state = .idle := rfl
@[simp] theorem Voice.toIdle_active : v.toIdle.active = false := rfl
@[simp] theorem Voice.toIdle_time : v.toIdle.time = v.time := rfl
@[simp] theorem Voice.toIdle_note : v.toIdle.note = v.note := rfl
@[simp] theorem Voice.toIdle_channel : v.toIdle.channel = v.channel := rfl

/-! ### `Voice.age` -/

@[simp] theorem Voice.age_carInc : v.age.carInc = v.carInc := rfl
@[simp] theorem Voice.age_modInc : v.age.modInc = v.modInc := rfl
@[simp] theorem Voice.age_modDepth : v.age.modDepth = v.modDepth := rfl
@[simp] theorem Voice.age_amp : v.age.amp = v.amp := rfl
@[simp] theorem Voice.age_phase : v.age.phase = v.phase := rfl
@[simp] theorem Voice.age_modPhase : v.age.modPhase = v.modPhase := rfl
@[simp] theorem Voice.age_level : v.age.level = v.level := rfl
@[simp] theorem Voice.age_state : v.age.state = v.state := rfl
@[simp] theorem Voice.age_active : v.age.active = v.active := rfl
@[simp] theorem Voice.age_time : v.age.time = BitVec.ofNat 32 (sat32 (v.time.toNat + 1)) := rfl
@[simp] theorem Voice.age_note : v.age.note = v.note := rfl
@[simp] theorem Voice.age_channel : v.age.channel = v.channel := rfl

/-! ### Delivery and ports -/

@[simp] theorem deliver_cfg (es : List Event) : (s.deliver es).cfg = s.cfg := rfl
@[simp] theorem deliver_voices (es : List Event) : (s.deliver es).voices = s.voices := rfl
@[simp] theorem deliver_map (es : List Event) : (s.deliver es).map = s.map := rfl
@[simp] theorem deliver_vol (es : List Event) : (s.deliver es).vol = s.vol := rfl
@[simp] theorem deliver_maxn (es : List Event) : (s.deliver es).maxn = s.maxn := rfl
@[simp] theorem deliver_frame (es : List Event) : (s.deliver es).frame = s.frame := rfl
@[simp] theorem deliver_input (es : List Event) : (s.deliver es).input = s.input ++ es := rfl
@[simp] theorem deliver_output (es : List Event) : (s.deliver es).output = s.output := rfl

@[simp] theorem frameOut_eq : s.frameOut = s.frame := rfl
@[simp] theorem maxNotesOut_eq : s.maxNotesOut = s.maxn := rfl

/-- What an update leaves the instrument reads with: only `cfg` and `map` matter. -/
theorem instrumentOf_congr {s t : State} (hc : s.cfg = t.cfg) (hm : s.map = t.map) (c : Nat) :
    s.instrumentOf c = t.instrumentOf c := by
  simp [State.instrumentOf, State.mapRead, hc, hm]

/-! ### Instrument reads after an update of something else -/

@[simp] theorem setVoices_instrumentOf (vs : List Voice) (c : Nat) :
    (s.setVoices vs).instrumentOf c = s.instrumentOf c := rfl
@[simp] theorem setVol_instrumentOf (x : Half) (c : Nat) :
    (s.setVol x).instrumentOf c = s.instrumentOf c := rfl
@[simp] theorem setMaxn_instrumentOf (n : Count) (c : Nat) :
    (s.setMaxn n).instrumentOf c = s.instrumentOf c := rfl
@[simp] theorem emitFrame_instrumentOf (f : Word) (c : Nat) :
    (s.emitFrame f).instrumentOf c = s.instrumentOf c := rfl
@[simp] theorem setInput_instrumentOf (es : List Event) (c : Nat) :
    (s.setInput es).instrumentOf c = s.instrumentOf c := rfl

@[simp] theorem ignore_eq (r : IgnoreReason) : ignore r s = .next s := rfl

end Sys2Proof.Machine
end

