-- ==== Sys2Proof/Laws/Envelope.lean ====
section
/-! SUPPORT. What one envelope step can do, state by state, and how runs of steps compose. -/

namespace Sys2Proof.Machine

/-! ### Runs -/

theorem envRun_succ (ins : Instrument) (n : Nat) (v : Voice) :
    envRun ins (n + 1) v = envStep ins (envRun ins n v) := by
  induction n generalizing v with
  | zero => rfl
  | succ n ih => rw [envRun, ih]; rfl

theorem envRun_add (ins : Instrument) (m n : Nat) (v : Voice) :
    envRun ins (m + n) v = envRun ins n (envRun ins m v) := by
  induction m generalizing v with
  | zero => simp [envRun]
  | succ m ih => rw [Nat.succ_add, envRun, ih]; rfl

/-! ### One step -/

variable {ins : Instrument} {v : Voice}

theorem envStep_attack_rise (hs : v.state = .attack)
    (h : v.level.toNat + effRate ins.attackRate < levelOne) :
    envStep ins v = { v with level := BitVec.ofNat 32 (v.level.toNat + effRate ins.attackRate) } := by
  simp only [envStep, hs, attackStep]; rw [if_neg (by omega)]

theorem envStep_attack_top (hs : v.state = .attack)
    (h : levelOne ≤ v.level.toNat + effRate ins.attackRate) :
    envStep ins v = { v with level := 1073741824, state := .decay } := by
  simp only [envStep, hs, attackStep]; rw [if_pos h]; rfl

theorem envStep_decay_fall (hs : v.state = .decay)
    (h : effSus ins.sustain + decayDrop ins < v.level.toNat) :
    envStep ins v = { v with level := BitVec.ofNat 32 (v.level.toNat - decayDrop ins) } := by
  simp only [envStep, hs, decayStep]; rw [if_neg (by omega)]

theorem envStep_decay_end (hs : v.state = .decay)
    (h : v.level.toNat ≤ effSus ins.sustain + decayDrop ins) :
    envStep ins v = { v with level := BitVec.ofNat 32 (effSus ins.sustain),
                             state := if effSus ins.sustain = 0 then .release else .sustain } := by
  simp only [envStep, hs, decayStep]; rw [if_pos h]

theorem envStep_sustain (hs : v.state = .sustain) :
    envStep ins v = { v with level := BitVec.ofNat 32 (effSus ins.sustain) } := by
  simp [envStep, hs, sustainStep]

theorem envStep_release_fall (hs : v.state = .release)
    (h : effRate ins.releaseRate < v.level.toNat) :
    envStep ins v = { v with level := BitVec.ofNat 32 (v.level.toNat - effRate ins.releaseRate) } := by
  simp only [envStep, hs, releaseStep]; rw [if_neg (by omega)]

theorem envStep_release_end (hs : v.state = .release)
    (h : v.level.toNat ≤ effRate ins.releaseRate) :
    envStep ins v = { v with level := 0, state := .idle, active := false } := by
  simp only [envStep, hs, releaseStep]; rw [if_pos h]; rfl

/-- A Decay always moves unless the sustain is full scale (42_envelope.md R123). -/
theorem decayDrop_pos (h : effSus ins.sustain < levelOne) : 0 < decayDrop ins := by
  unfold decayDrop
  rw [lt_ceilDiv_iff (by norm_num)]
  have := effRate_pos ins.decayRate
  simp; constructor <;> omega

/-! ### What every step keeps -/

theorem envStep_frame (ins : Instrument) (v : Voice) :
    (envStep ins v).carInc = v.carInc ∧ (envStep ins v).modInc = v.modInc ∧
      (envStep ins v).modDepth = v.modDepth ∧ (envStep ins v).amp = v.amp ∧
      (envStep ins v).phase = v.phase ∧ (envStep ins v).modPhase = v.modPhase ∧
      (envStep ins v).time = v.time ∧ (envStep ins v).note = v.note ∧
      (envStep ins v).channel = v.channel ∧
      ((envStep ins v).active = true → v.active = true) := by
  unfold envStep attackStep decayStep sustainStep releaseStep
  split <;> (try dsimp only) <;> (try split) <;> simp

theorem envStep_level (ins : Instrument) (v : Voice) (h : v.level.toNat ≤ levelOne) :
    (envStep ins v).level.toNat ≤ levelOne := by
  have hs := effSus_le ins.sustain
  unfold levelOne at *
  unfold envStep attackStep decayStep sustainStep releaseStep Voice.toIdle levelOne
  split <;> (try dsimp only) <;> (try split) <;> simp <;> omega

theorem envStep_active_iff (ins : Instrument) (v : Voice) (h : v.active = true ↔ v.state ≠ .idle) :
    (envStep ins v).active = true ↔ (envStep ins v).state ≠ .idle := by
  unfold envStep attackStep decayStep sustainStep releaseStep Voice.toIdle
  split <;> (try dsimp only) <;> (try split) <;> simp_all
  split <;> simp

end Sys2Proof.Machine
end

