-- ==== Sys2Proof/Laws/Pool.lean ====
section
/-! SUPPORT. The allocator's two phases and NOTE_OFF's scan, said once each. -/

namespace Sys2Proof.Machine

/-! ### Phase FREE -/

theorem firstFree_eq_none_iff (vs : List Voice) :
    firstFree vs = none ↔ ∀ v ∈ vs, v.active = true := by
  simp [firstFree, List.findIdx?_eq_none_iff]

theorem firstFree_eq_some {vs : List Voice} {i : Nat} (h : firstFree vs = some i) :
    ∃ v, vs[i]? = some v ∧ v.active = false ∧
      ∀ (j : Nat) (w : Voice), j < i → vs[j]? = some w → w.active = true := by
  obtain ⟨hi, hv, hlow⟩ := List.findIdx?_eq_some_iff_getElem.mp h
  refine ⟨vs[i], List.getElem?_eq_getElem hi, by simpa using hv, fun j w hj hw => ?_⟩
  obtain ⟨hj', rfl⟩ := List.getElem?_eq_some_iff.mp hw
  simpa using hlow j hj

/-! ### Phase STEAL -/

/-- What the loop answers: the best so far or a later voice; at least as old as all it has seen, and
strictly older than each one it passed over for a later one. `pre` is what has been visited. -/
theorem oldestFrom_spec (vs : List Voice) : ∀ (pre : List Voice) (best : Nat) (b : Voice),
    pre[best]? = some b → (∀ w ∈ pre, w.time.toNat ≤ b.time.toNat) →
    (∀ (j : Nat) (w : Voice), j < best → pre[j]? = some w → w.time.toNat < b.time.toNat) →
    ∃ v, (pre ++ vs)[oldestFrom best b.time.toNat pre.length vs]? = some v ∧
      (∀ w ∈ pre ++ vs, w.time.toNat ≤ v.time.toNat) ∧
      ∀ (j : Nat) (w : Voice), j < oldestFrom best b.time.toNat pre.length vs →
        (pre ++ vs)[j]? = some w → w.time.toNat < v.time.toNat := by
  induction vs with
  | nil => intro pre best b hb hmax hlow; exact ⟨b, by simpa [oldestFrom] using hb,
      by simpa using hmax, by simpa [oldestFrom] using hlow⟩
  | cons v vs ih =>
    intro pre best b hb hmax hlow
    have hlen : (pre ++ [v]).length = pre.length + 1 := by simp
    have happ : pre ++ v :: vs = (pre ++ [v]) ++ vs := by simp
    by_cases hv : b.time.toNat < v.time.toNat
    · have := ih (pre ++ [v]) pre.length v (by simp)
        (by intro w hw
            rcases List.mem_append.mp hw with hw | hw
            · exact (hmax w hw).trans hv.le
            · simp_all)
        (by intro j w hj hw
            rw [List.getElem?_append_left hj] at hw
            exact (hmax w (List.mem_of_getElem? hw)).trans_lt hv)
      rw [hlen] at this
      simpa only [happ, oldestFrom, if_pos hv] using this
    · have hbest : best < pre.length := (List.getElem?_eq_some_iff.mp hb).1
      have := ih (pre ++ [v]) best b (by rw [List.getElem?_append_left hbest]; exact hb)
        (by intro w hw
            rcases List.mem_append.mp hw with hw | hw
            · exact hmax w hw
            · simp_all)
        (by intro j w hj hw
            rw [List.getElem?_append_left (hj.trans hbest)] at hw
            exact hlow j w hj hw)
      rw [hlen] at this
      simpa only [happ, oldestFrom, if_neg hv] using this

/-- The voice phase STEAL picks from a pool. -/
theorem oldest_spec {vs : List Voice} (h : vs ≠ []) : ∃ v, vs[oldest vs]? = some v ∧
    (∀ w ∈ vs, w.time.toNat ≤ v.time.toNat) ∧
    ∀ (j : Nat) (w : Voice), j < oldest vs → vs[j]? = some w → w.time.toNat < v.time.toNat := by
  obtain ⟨v, vs, rfl⟩ := List.exists_cons_of_ne_nil h
  have := oldestFrom_spec vs [v] 0 v (by simp) (by simp) (by intro j w hj; omega)
  simpa [oldest] using this

/-- Allocation answers a valid index (41_voice_pool.md R101). -/
theorem allocate_lt {vs : List Voice} (h : vs ≠ []) : allocate vs < vs.length := by
  unfold allocate
  split
  · rename_i i hi
    obtain ⟨v, hv, -⟩ := firstFree_eq_some hi
    exact (List.getElem?_eq_some_iff.mp hv).1
  · obtain ⟨v, hv, -⟩ := oldest_spec h
    exact (List.getElem?_eq_some_iff.mp hv).1

/-! ### NOTE_OFF's scan -/

theorem soundsOn_iff (ch : Nat) (v : Voice) : Voice.soundsOn ch v = true ↔ v.SoundsOn ch := by
  simp [Voice.soundsOn]

theorem plays_iff (ch note : Nat) (v : Voice) : Voice.plays ch note v = true ↔ v.Plays ch note := by
  simp [Voice.plays, soundsOn_iff]

@[simp] theorem releaseFirst_length (ch note : Nat) (vs : List Voice) :
    (releaseFirst ch note vs).length = vs.length := by
  induction vs with
  | nil => rfl
  | cons v vs ih => unfold releaseFirst; split <;> simp [ih]

theorem releaseFirst_of_none {ch note : Nat} {vs : List Voice} (h : ∀ v ∈ vs, ¬v.Plays ch note) :
    releaseFirst ch note vs = vs := by
  induction vs with
  | nil => rfl
  | cons v vs ih =>
    have hv : ¬Voice.plays ch note v = true := by
      rw [plays_iff]; exact h v List.mem_cons_self
    simp only [releaseFirst, hv, if_false, Bool.false_eq_true]
    rw [ih fun w hw => h w (List.mem_cons_of_mem _ hw)]

theorem releaseFirst_of_first {ch note : Nat} {vs : List Voice} {i : Nat} {v : Voice}
    (hi : vs[i]? = some v) (hv : v.Plays ch note)
    (hlow : ∀ (j : Nat) (w : Voice), j < i → vs[j]? = some w → ¬w.Plays ch note) :
    releaseFirst ch note vs = vs.set i v.toRelease := by
  induction vs generalizing i with
  | nil => simp at hi
  | cons w vs ih =>
    cases i with
    | zero =>
      obtain rfl : w = v := by simpa using hi
      simp [releaseFirst, (plays_iff ch note w).mpr hv]
    | succ i =>
      have hw : ¬Voice.plays ch note w = true := by
        rw [plays_iff]; exact hlow 0 w (by omega) rfl
      simp only [releaseFirst, hw, if_false, Bool.false_eq_true, List.set_cons_succ]
      rw [ih (by simpa using hi) fun j x hj hx => hlow (j + 1) x (by omega) (by simpa using hx)]

/-- Every voice after the scan is a voice of the pool, or one of it in Release. -/
theorem mem_releaseFirst {ch note : Nat} {vs : List Voice} {w : Voice}
    (h : w ∈ releaseFirst ch note vs) : w ∈ vs ∨ ∃ v ∈ vs, v.Plays ch note ∧ w = v.toRelease := by
  induction vs with
  | nil => simp [releaseFirst] at h
  | cons v vs ih =>
    unfold releaseFirst at h
    split at h
    · rename_i hp
      rcases List.mem_cons.mp h with rfl | h
      · exact .inr ⟨v, by simp, (plays_iff ..).mp hp, rfl⟩
      · exact .inl (by simp [h])
    · rcases List.mem_cons.mp h with rfl | h
      · exact .inl (by simp)
      · rcases ih h with h | ⟨x, hx, hp⟩
        · exact .inl (by simp [h])
        · exact .inr ⟨x, by simp [hx], hp⟩

end Sys2Proof.Machine
end

