-- ==== Sys2Proof/Laws/Step.lean ====
section
/-! SUPPORT. What a command, a Tick and a step can do, said once. -/

namespace Sys2Proof.Machine

/-! ### Commands in range: one equation each -/

theorem exec_noteOn {s : State} {ch note vel : Nat} (h : ch < s.cfg.nv) :
    exec (.noteOn ch note vel) s = .next (s.setVoices (s.voices.set (allocate s.voices)
      (claimedVoice s.cfg (s.instrumentOf ch) ch note vel))) := by
  simp only [exec, execNoteOn]
  rw [if_neg (by omega)]

theorem exec_noteOff {s : State} {ch note : Nat} (h : ch < s.cfg.nv) :
    exec (.noteOff ch note) s = if effSus (s.instrumentOf ch).sustain = 0 then .next s
      else .next (s.setVoices (releaseFirst ch note s.voices)) := by
  simp only [exec, execNoteOff]
  rw [if_neg (by omega)]

theorem exec_allNotesOff (s : State) :
    exec .allNotesOff s = .next (s.setVoices (s.voices.map Voice.silence)) := rfl

theorem exec_setInstrument {s : State} {ch idx : Nat} (h : ch < s.cfg.nv) (hi : idx < s.cfg.ni) :
    exec (.setInstrument ch idx) s = .next (s.setMap (s.map.set ch (BitVec.ofNat 8 idx))) := by
  simp only [exec, execSetInstrument]
  rw [if_neg (by omega), if_neg (by omega)]

theorem exec_alterVol {s : State} {ch vel : Nat} (h : ch < s.cfg.nv) :
    exec (.alterVol ch vel) s = .next (s.setVoices (s.voices.map fun v =>
      if v.soundsOn ch then v.withGain (s.instrumentOf ch) vel else v)) := by
  simp only [exec, execAlterVol]
  rw [if_neg (by omega)]

theorem exec_alterPitch {s : State} {ch bend : Nat} (h : ch < s.cfg.nv) :
    exec (.alterPitch ch bend) s = .next (s.setVoices (s.voices.map fun v =>
      if v.soundsOn ch then v.withBend s.cfg (s.instrumentOf ch) bend else v)) := by
  simp only [exec, execAlterPitch]
  rw [if_neg (by omega)]

/-- A command out of range changes nothing (60_exceptions.md R191). -/
theorem exec_of_rangeReason {s : State} {i : Instr} {r : IgnoreReason}
    (h : rangeReason s.cfg i = some r) : exec i s = .next s := by
  cases i <;> simp only [rangeReason] at h <;> (repeat' split at h) <;>
    simp_all [exec, execNoteOn, execNoteOff, execSetInstrument, execAlterVol, execAlterPitch]

/-! ### Commands: all they can do -/

/-- What the meaning of a command can do to the state: nothing, or one write to one of V, MAP, VOL,
MAXN. The voice writes are those of the four note-affecting commands. -/
theorem exec_cases {i : Instr} {s t : State} (h : exec i s = .next t) :
    t = s ∨
    (∃ ch note vel, ch < s.cfg.nv ∧ i = .noteOn ch note vel ∧
      t = s.setVoices (s.voices.set (allocate s.voices)
        (claimedVoice s.cfg (s.instrumentOf ch) ch note vel))) ∨
    (∃ ch note, i = .noteOff ch note ∧ t = s.setVoices (releaseFirst ch note s.voices)) ∨
    (i = .allNotesOff ∧ t = s.setVoices (s.voices.map Voice.silence)) ∨
    (∃ ch idx, ch < s.cfg.nv ∧ idx < s.cfg.ni ∧ i = .setInstrument ch idx ∧
      t = s.setMap (s.map.set ch (BitVec.ofNat 8 idx))) ∨
    (∃ pct, i = .setVolume pct ∧ t = s.setVol (volumeOf pct)) ∨
    (∃ ch vel, i = .alterVol ch vel ∧ t = s.setVoices (s.voices.map fun v =>
      if v.soundsOn ch then v.withGain (s.instrumentOf ch) vel else v)) ∨
    (∃ ch bend, i = .alterPitch ch bend ∧ t = s.setVoices (s.voices.map fun v =>
      if v.soundsOn ch then v.withBend s.cfg (s.instrumentOf ch) bend else v)) ∨
    (∃ n, i = .setMaxNotes n ∧ t = s.setMaxn (ceilingOf n s.cfg.nv)) := by
  cases i with
  | nop => cases h; exact .inl rfl
  | noteOn ch note vel =>
    simp only [exec, execNoteOn, ignore_eq] at h
    split at h <;> cases h
    · exact .inl rfl
    · exact .inr (.inl ⟨ch, note, vel, by omega, rfl, rfl⟩)
  | noteOff ch note =>
    simp only [exec, execNoteOff, ignore_eq] at h
    split at h
    · cases h; exact .inl rfl
    · split at h <;> cases h
      · exact .inl rfl
      · exact .inr (.inr (.inl ⟨ch, note, rfl, rfl⟩))
  | allNotesOff => cases h; exact .inr (.inr (.inr (.inl ⟨rfl, rfl⟩)))
  | setInstrument ch idx =>
    simp only [exec, execSetInstrument, ignore_eq] at h
    split at h
    · cases h; exact .inl rfl
    · split at h <;> cases h
      · exact .inl rfl
      · exact .inr (.inr (.inr (.inr (.inl ⟨ch, idx, by omega, by omega, rfl, rfl⟩))))
  | setVolume pct => cases h; exact .inr (.inr (.inr (.inr (.inr (.inl ⟨pct, rfl, rfl⟩)))))
  | alterVol ch vel =>
    simp only [exec, execAlterVol, ignore_eq] at h
    split at h <;> cases h
    · exact .inl rfl
    · exact .inr (.inr (.inr (.inr (.inr (.inr (.inl ⟨ch, vel, rfl, rfl⟩))))))
  | alterPitch ch bend =>
    simp only [exec, execAlterPitch, ignore_eq] at h
    split at h <;> cases h
    · exact .inl rfl
    · exact .inr (.inr (.inr (.inr (.inr (.inr (.inr (.inl ⟨ch, bend, rfl, rfl⟩)))))))
  | setMaxNotes n =>
    cases h; exact .inr (.inr (.inr (.inr (.inr (.inr (.inr (.inr ⟨n, rfl, rfl⟩)))))))

/-- A command neither reads nor writes the events still to come. -/
theorem exec_setInput {i : Instr} {s t : State} (h : exec i s = .next t) (es : List Event) :
    exec i (s.setInput es) = .next (t.setInput es) := by
  cases hr : rangeReason s.cfg i with
  | some r =>
    rw [exec_of_rangeReason hr] at h; cases h
    exact exec_of_rangeReason (s := s.setInput es) hr
  | none =>
    cases i with
    | nop => cases h; rfl
    | allNotesOff => cases h; rfl
    | setVolume => cases h; rfl
    | setMaxNotes => cases h; rfl
    | noteOn ch note vel =>
      have hc : ch < s.cfg.nv := by simpa [rangeReason] using hr
      rw [exec_noteOn hc] at h; cases h; rw [exec_noteOn (s := s.setInput es) hc]; rfl
    | noteOff ch note =>
      have hc : ch < s.cfg.nv := by simpa [rangeReason] using hr
      rw [exec_noteOff hc] at h; rw [exec_noteOff (s := s.setInput es) hc]
      simp only [setInput_instrumentOf]
      split at h <;> cases h <;> simp only [*, if_true, if_false]
      rfl
    | setInstrument ch idx =>
      have hc : ch < s.cfg.nv ∧ idx < s.cfg.ni := by
        simp only [rangeReason] at hr; split at hr
        · cases hr
        · split at hr
          · cases hr
          · omega
      rw [exec_setInstrument hc.1 hc.2] at h; cases h
      rw [exec_setInstrument (s := s.setInput es) hc.1 hc.2]; rfl
    | alterVol ch vel =>
      have hc : ch < s.cfg.nv := by simpa [rangeReason] using hr
      rw [exec_alterVol hc] at h; cases h; rw [exec_alterVol (s := s.setInput es) hc]; rfl
    | alterPitch ch vel =>
      have hc : ch < s.cfg.nv := by simpa [rangeReason] using hr
      rw [exec_alterPitch hc] at h; cases h; rw [exec_alterPitch (s := s.setInput es) hc]; rfl

/-- Every meaning answers a next state (60_exceptions.md R190). -/
theorem exec_answers (i : Instr) (s : State) : ∃ t, exec i s = .next t := by
  cases i with
  | nop => exact ⟨_, rfl⟩
  | allNotesOff => exact ⟨_, rfl⟩
  | setVolume => exact ⟨_, rfl⟩
  | setMaxNotes => exact ⟨_, rfl⟩
  | noteOn => simp only [exec, execNoteOn, ignore_eq]; split <;> exact ⟨_, rfl⟩
  | alterVol => simp only [exec, execAlterVol, ignore_eq]; split <;> exact ⟨_, rfl⟩
  | alterPitch => simp only [exec, execAlterPitch, ignore_eq]; split <;> exact ⟨_, rfl⟩
  | noteOff =>
    simp only [exec, execNoteOff, ignore_eq]
    split
    · exact ⟨_, rfl⟩
    · split <;> exact ⟨_, rfl⟩
  | setInstrument =>
    simp only [exec, execSetInstrument, ignore_eq]
    split
    · exact ⟨_, rfl⟩
    · split <;> exact ⟨_, rfl⟩

/-! ### The Tick's scan -/

theorem tickScan_fst (s : State) (vs : List Voice) : ∀ acc : Int,
    (tickScan s vs acc).1 =
      vs.map fun v => (voiceTick (s.instrumentOf v.channel.toNat) s.vol v).1 := by
  induction vs with
  | nil => intro; rfl
  | cons v vs ih => intro acc; simp [tickScan, ih]

theorem tickScan_snd (s : State) (vs : List Voice) : ∀ acc : Int,
    (tickScan s vs acc).2 =
      acc + (vs.map fun v => (voiceTick (s.instrumentOf v.channel.toNat) s.vol v).2).sum := by
  induction vs with
  | nil => intro; simp [tickScan]
  | cons v vs ih => intro acc; simp [tickScan, ih, add_assoc]

/-- The scan reads only the parameters, the map and the volume of the state. -/
theorem tickScan_congr {s t : State} (hc : s.cfg = t.cfg) (hm : s.map = t.map) (hv : s.vol = t.vol)
    (vs : List Voice) (acc : Int) : tickScan s vs acc = tickScan t vs acc := by
  induction vs generalizing acc with
  | nil => rfl
  | cons v vs ih => simp [tickScan, ih, instrumentOf_congr hc hm, hv]

/-! ### One step -/

theorem step_nil {s : State} (h : s.input = []) : step s = .next s := by simp [step, h]

theorem step_cons {s : State} {e : Event} {rest : List Event} (h : s.input = e :: rest) :
    step s = applyEvent e (s.setInput rest) := by simp [step, h]

/-- What a step can be: a pause, an ignored word, a command, a Tick or a reset. -/
theorem step_cases {s t : State} (h : step s = .next t) :
    (s.input = [] ∧ t = s) ∨
    (∃ w rest r, s.input = .cmd w :: rest ∧ decode w = .error r ∧ t = s.setInput rest) ∨
    (∃ w rest i, s.input = .cmd w :: rest ∧ decode w = .ok i ∧ exec i (s.setInput rest) = .next t) ∨
    (∃ rest, s.input = .tick :: rest ∧ t = tickState (s.setInput rest)) ∨
    (∃ rest, s.input = .rst :: rest ∧ t = (s.setInput rest).applyReset) := by
  cases hin : s.input with
  | nil => rw [step_nil hin] at h; cases h; exact .inl ⟨rfl, rfl⟩
  | cons e rest =>
    rw [step_cons hin] at h
    cases e with
    | cmd w =>
      simp only [applyEvent, execCmd] at h
      split at h
      · rename_i i hi; exact .inr (.inr (.inl ⟨w, rest, i, rfl, hi, h⟩))
      · rename_i r hr; cases h; exact .inr (.inl ⟨w, rest, r, rfl, hr, rfl⟩)
    | tick => cases h; exact .inr (.inr (.inr (.inl ⟨rest, rfl, rfl⟩)))
    | rst => cases h; exact .inr (.inr (.inr (.inr ⟨rest, rfl, rfl⟩)))

end Sys2Proof.Machine
end

