-- ==== Sys2Proof/Laws/Tick.lean ====
section
/-! SUPPORT. What one visit of the Tick's scan leaves alone, the ranges of the datapath, and the
invariant over a Tick's pool. -/

namespace Sys2Proof.Machine

/-! ### One visit -/

theorem voiceTick_frame (ins : Instrument) (vol : Half) (v : Voice) :
    (voiceTick ins vol v).1.carInc = v.carInc ∧ (voiceTick ins vol v).1.modInc = v.modInc ∧
      (voiceTick ins vol v).1.modDepth = v.modDepth ∧ (voiceTick ins vol v).1.amp = v.amp ∧
      (voiceTick ins vol v).1.note = v.note ∧ (voiceTick ins vol v).1.channel = v.channel ∧
      ((voiceTick ins vol v).1.active = true → v.active = true) := by
  obtain ⟨f1, f2, f3, f4, f5, f6, f7, f8, f9, f10⟩ := envStep_frame ins v.age
  simp only [voiceTick]
  split
  · simp
  · split
    · simp_all
    · simp_all [oscStep]

theorem voiceTick_inv (cfg : Config) (ins : Instrument) (vol : Half) (v : Voice) (h : v.Inv cfg) :
    (voiceTick ins vol v).1.Inv cfg := by
  obtain ⟨h1, h2, h3⟩ := h
  have e1 := envStep_level ins v.age h1
  obtain ⟨-, -, -, -, -, -, -, -, e2, -⟩ := envStep_frame ins v.age
  have e3 := envStep_active_iff ins v.age h3
  have e4 : (envStep ins v.age).channel.toNat < cfg.nv := by rw [e2]; exact h2
  simp only [voiceTick]
  split
  · exact ⟨h1, h2, h3⟩
  · split
    · exact ⟨e1, e4, e3⟩
    · exact ⟨e1, e4, e3⟩

/-! ### Ranges (43_oscillator_mixer.md R140, R145, R151) -/

theorem sineFirstQuarter_le : ∀ i : Fin 513, sineFirstQuarter i ≤ 32767 := by decide +kernel

theorem sine_range (ph : Word) : -32767 ≤ sine ph ∧ sine ph ≤ 32767 := by
  have h : ∀ i, i ≤ 1024 → sineFirstHalf i ≤ 32767 := by
    intro i hi
    unfold sineFirstHalf
    split
    · exact sineFirstQuarter_le ⟨i, by omega⟩
    · exact sineFirstQuarter_le ⟨1024 - i, by omega⟩
  have hp := ph.isLt
  unfold sine sineRom
  split
  · have := h (ph.toNat / 2 ^ 21) (by omega); omega
  · have := h (ph.toNat / 2 ^ 21 - 1024) (by omega); omega

/-- A product with a factor of at most 1.0 and its floor stay in the range. -/
theorem scaled_range {c a : Int} (h1 : -65534 ≤ c) (h2 : c ≤ 65533) (h3 : 0 ≤ a) (h4 : a ≤ 32768) :
    -65534 ≤ c * a / 2 ^ 15 ∧ c * a / 2 ^ 15 ≤ 65533 := by
  constructor
  · apply Int.le_ediv_of_mul_le (by norm_num); nlinarith
  · apply Int.ediv_le_of_le_mul (by norm_num); nlinarith

theorem outputOf_range (acc : Int) : -32767 ≤ outputOf acc ∧ outputOf acc ≤ 32767 := by
  unfold outputOf trunc0 clampInt
  have h1 : -32768 ≤ min (max acc (-32768)) 32768 := by omega
  have h2 : min (max acc (-32768)) 32768 ≤ 32768 := by omega
  generalize min (max acc (-32768)) 32768 = x at *
  rcases le_or_gt 0 x with h | h
  · rw [Int.tdiv_eq_ediv_of_nonneg (by omega)]; omega
  · have : (x * 32767).tdiv 32768 = -((-x * 32767).tdiv 32768) := by
      rw [show -x * 32767 = -(x * 32767) by ring, Int.neg_tdiv, neg_neg]
    rw [this, Int.tdiv_eq_ediv_of_nonneg (by omega)]; omega

theorem quantize_toInt (acc : Int) : (quantize acc).toInt = outputOf acc := by
  have := outputOf_range acc
  simp only [quantize, BitVec.toInt_ofInt]
  rw [Int.bmod_eq_of_le] <;> omega

/-! ### The invariant and a new pool -/

theorem inv_setVoices {s : State} {vs : List Voice} (h : s.Inv) (hl : vs.length = s.voices.length)
    (hv : ∀ v ∈ vs, v.Inv s.cfg) : (s.setVoices vs).Inv := by
  obtain ⟨h1, h2, h3, h4, h5, h6, h7, -, h9⟩ := h
  exact ⟨h1, by simpa [hl] using h2, h3, h4, h5, h6, h7, hv, h9⟩

end Sys2Proof.Machine
end

