-- ==== Sys2Proof/Laws/Observe.lean ====
section
/-! SUPPORT. Pools that differ in inactive voices only (93 I18): what each shared operation keeps of
that. -/

namespace Sys2Proof.Machine

variable {vs ws : List Voice}

theorem alike_map {f : Voice → Voice} (h : List.Forall₂ Voice.Alike vs ws)
    (hf : ∀ v w, v.Alike w → (f v).Alike (f w)) :
    List.Forall₂ Voice.Alike (vs.map f) (ws.map f) := by
  induction h with
  | nil => simp
  | cons h1 _ ih => simp only [List.map_cons]; exact .cons (hf _ _ h1) ih

theorem alike_set (h : List.Forall₂ Voice.Alike vs ws) (i : Nat) (v : Voice) :
    List.Forall₂ Voice.Alike (vs.set i v) (ws.set i v) := by
  induction h generalizing i with
  | nil => simp
  | cons h1 h2 ih =>
    cases i with
    | zero => exact .cons (.inl rfl) h2
    | succ i => exact .cons h1 (ih i)

theorem alike_firstFree (h : List.Forall₂ Voice.Alike vs ws) : firstFree vs = firstFree ws := by
  unfold firstFree
  induction h with
  | nil => rfl
  | cons h1 _ ih =>
    simp only [List.findIdx?_cons, ih]
    rcases h1 with rfl | ⟨a, b⟩
    · rfl
    · simp [a, b]

/-- With no inactive voice, alike pools are equal. -/
theorem alike_full (h : List.Forall₂ Voice.Alike vs ws) (hv : ∀ v ∈ vs, v.active = true) :
    vs = ws := by
  induction h with
  | nil => rfl
  | cons h1 _ ih =>
    have := ih (fun v hv' => hv v (by simp [hv']))
    rcases h1 with rfl | ⟨a, b⟩
    · rw [this]
    · have := hv _ List.mem_cons_self; simp_all

theorem alike_allocate (h : List.Forall₂ Voice.Alike vs ws) : allocate vs = allocate ws := by
  unfold allocate
  rw [← alike_firstFree h]
  split
  · rfl
  · rw [alike_full h ((firstFree_eq_none_iff vs).mp (by assumption))]

theorem alike_releaseFirst (ch note : Nat) (h : List.Forall₂ Voice.Alike vs ws) :
    List.Forall₂ Voice.Alike (releaseFirst ch note vs) (releaseFirst ch note ws) := by
  induction h with
  | nil => exact .nil
  | cons h1 h2 ih =>
    rcases h1 with rfl | ⟨a, b⟩
    · unfold releaseFirst
      split
      · exact .cons (.inl rfl) h2
      · exact .cons (.inl rfl) ih
    · simp only [releaseFirst, Voice.plays, Voice.soundsOn, a, b]
      simp; exact ⟨.inr ⟨a, b⟩, ih⟩

/-- The scan visits alike pools alike and sums the same. -/
theorem alike_tickScan {s t : State} (hc : s.cfg = t.cfg) (hm : s.map = t.map) (hv : s.vol = t.vol)
    (h : List.Forall₂ Voice.Alike vs ws) (acc : Int) :
    List.Forall₂ Voice.Alike (tickScan s vs acc).1 (tickScan t ws acc).1 ∧
      (tickScan s vs acc).2 = (tickScan t ws acc).2 := by
  induction h generalizing acc with
  | nil => exact ⟨.nil, rfl⟩
  | cons h1 h2 ih =>
    rcases h1 with rfl | ⟨a, b⟩
    · simp only [tickScan, instrumentOf_congr hc hm, hv]
      exact ⟨.cons (.inl rfl) (ih _).1, (ih _).2⟩
    · simp only [tickScan, voiceTick, a, b, if_true]
      exact ⟨.cons (.inr ⟨a, b⟩) (ih _).1, (ih _).2⟩

end Sys2Proof.Machine
end

