-- ==== Sys2Proof/Laws/PerInstr.lean ====
section
/-! SUPPORT. The per-instruction family `EncodesToItsRow`: the word of a well-formed instruction matches
the row of its opcode (30_encoding.md R73), so its reserved bits are zero. -/

namespace Sys2Proof.Laws.EncodesToItsRow

/-- The word of a well-formed instruction matches its opcode's row. -/
def Statement (i : Instr) : Prop :=
  i.WellFormed → ∃ pattern mask, encodingRow i.opcode = some (pattern, mask) ∧
    encode i &&& mask = pattern

theorem low_byte {b : Nat} (h : b < 128) : BitVec.ofNat 8 b &&& 0x80 = (0 : Byte) := by
  rw [and_high_bit, BitVec.toNat_ofNat]
  omega

theorem nop : Statement .nop := fun _ => ⟨_, _, rfl, by decide⟩

theorem allNotesOff : Statement .allNotesOff := fun _ => ⟨_, _, rfl, by decide⟩

theorem noteOn (ch note vel : Nat) : Statement (.noteOn ch note vel) := by
  intro h
  obtain ⟨h1, h2, h3⟩ := (wf_noteOn ..).mp h
  refine ⟨_, _, rfl, ?_⟩
  rw [encode, commandWord_eq h1 (by omega) (by omega),
    show (0xFF008080 : Word) = ofBytes 0xFF 0 0x80 0x80 from by decide, ofBytes_and,
    show (0x10000000 : Word) = ofBytes 0x10 0 0 0 from by decide, ofBytes_inj]
  exact ⟨by decide, by simp, low_byte h2, low_byte h3⟩

theorem noteOff (ch note : Nat) : Statement (.noteOff ch note) := by
  intro h
  obtain ⟨h1, h2⟩ := (wf_noteOff ..).mp h
  refine ⟨_, _, rfl, ?_⟩
  rw [encode, commandWord_eq h1 (by omega) (by omega),
    show (0xFF0080FF : Word) = ofBytes 0xFF 0 0x80 0xFF from by decide, ofBytes_and,
    show (0x20000000 : Word) = ofBytes 0x20 0 0 0 from by decide, ofBytes_inj]
  exact ⟨by decide, by simp, low_byte h2, by decide⟩

theorem setInstrument (ch idx : Nat) : Statement (.setInstrument ch idx) := by
  intro h
  obtain ⟨h1, h2⟩ := (wf_setInstrument ..).mp h
  refine ⟨_, _, rfl, ?_⟩
  rw [encode, commandWord_eq h1 (by omega) (by omega),
    show (0xFF0000FF : Word) = ofBytes 0xFF 0 0 0xFF from by decide, ofBytes_and,
    show (0x40000000 : Word) = ofBytes 0x40 0 0 0 from by decide, ofBytes_inj]
  exact ⟨by decide, by simp, by simp, by decide⟩

theorem setVolume (pct : Nat) : Statement (.setVolume pct) := by
  intro h
  have h1 := (wf_setVolume ..).mp h
  refine ⟨_, _, rfl, ?_⟩
  rw [encode, commandWord_eq (by omega) (by omega) (by omega),
    show (0xFFFF80FF : Word) = ofBytes 0xFF 0xFF 0x80 0xFF from by decide, ofBytes_and,
    show (0x50000000 : Word) = ofBytes 0x50 0 0 0 from by decide, ofBytes_inj]
  exact ⟨by decide, by decide, low_byte h1, by decide⟩

theorem alterVol (ch vel : Nat) : Statement (.alterVol ch vel) := by
  intro h
  obtain ⟨h1, h2⟩ := (wf_alterVol ..).mp h
  refine ⟨_, _, rfl, ?_⟩
  rw [encode, commandWord_eq h1 (by omega) (by omega),
    show (0xFF0080FF : Word) = ofBytes 0xFF 0 0x80 0xFF from by decide, ofBytes_and,
    show (0x60000000 : Word) = ofBytes 0x60 0 0 0 from by decide, ofBytes_inj]
  exact ⟨by decide, by simp, low_byte h2, by decide⟩

theorem alterPitch (ch bend : Nat) : Statement (.alterPitch ch bend) := by
  intro h
  obtain ⟨h1, h2⟩ := (wf_alterPitch ..).mp h
  refine ⟨_, _, rfl, ?_⟩
  rw [encode, commandWord_eq h1 (by omega) (by omega),
    show (0xFF0080FF : Word) = ofBytes 0xFF 0 0x80 0xFF from by decide, ofBytes_and,
    show (0x70000000 : Word) = ofBytes 0x70 0 0 0 from by decide, ofBytes_inj]
  exact ⟨by decide, by simp, low_byte h2, by decide⟩

theorem setMaxNotes (n : Nat) : Statement (.setMaxNotes n) := by
  intro h
  have h1 := (wf_setMaxNotes ..).mp h
  refine ⟨_, _, rfl, ?_⟩
  rw [encode, commandWord_eq (by omega) (by omega) (by omega),
    show (0xFFFF00FF : Word) = ofBytes 0xFF 0xFF 0 0xFF from by decide, ofBytes_and,
    show (0x80000000 : Word) = ofBytes 0x80 0 0 0 from by decide, ofBytes_inj]
  exact ⟨by decide, by decide, by simp, by decide⟩

end Sys2Proof.Laws.EncodesToItsRow
end

