-- ==== Sys2Proof/Laws/Rom.lean ====
section
/-! SUPPORT. What the two tables hold, as facts about integers the kernel can compute
(20_memory.md R51, R53), and the first quarter of the sine table against the real sine. -/

namespace Sys2Proof.Machine

/-! ### FREQ -/

/-- `FREQ[k] - 1/2 ≤ 2^(31 + k/768) < FREQ[k] + 1/2`, each side raised to the power 768. -/
def freqBracket (k : Nat) : Bool :=
  decide ((2 * freqRom k - 1) ^ 768 ≤ 2 ^ (32 * 768 + k)) &&
    decide (2 ^ (32 * 768 + k) < (2 * freqRom k + 1) ^ 768) &&
    decide (2147483648 ≤ freqRom k) && decide (freqRom k < 2 ^ 32)

set_option maxRecDepth 10000 in
theorem freqBracket_all : ∀ k, k < 768 → freqBracket k = true := by decide +kernel

/-! ### SINE: the angle turned in steps of `pi / 1024`

Cosine and sine are held as integers in units of `10^-15`, with a bound on the error that grows as the
steps add up. At 512 steps the bound is far below the distance of any entry to a half-integer. -/

/-- One unit: `10^15`. -/
abbrev rotOne : Int := 10 ^ 15

/-- `cos(pi / 1024)` to within `4.7e-12`. -/
abbrev rotCos : Int := 999995293805885

/-- `sin(pi / 1024)` to within `4.7e-12`. -/
abbrev rotSin : Int := 3067956762964

/-- An approximate point of the circle and the bound on its error. -/
structure Rot where
  c : Int
  s : Int
  e : Int

/-- One turn, and what it adds to the error. -/
def Rot.turn (r : Rot) : Rot :=
  ⟨(r.c * rotCos - r.s * rotSin) / rotOne, (r.s * rotCos + r.c * rotSin) / rotOne,
    r.e + r.e * 4 / 1000 + 9800⟩

/-- `n` is the only integer within a half of the scaled sine, and the bounds the next turn needs. -/
def Rot.rounds (r : Rot) (n : Int) : Bool :=
  decide (|2 * (32767 * r.s - n * rotOne)| + 65534 * r.e < rotOne) && decide (0 ≤ r.e) &&
    decide (r.e < 10 ^ 9) && decide (|r.c| ≤ rotOne + 10 ^ 9) && decide (|r.s| ≤ rotOne + 10 ^ 9)

/-- The table's entries from `i` on, against the turning point. -/
def rotCheck : Nat → Nat → Rot → Bool
  | 0, _, _ => true
  | n + 1, i, r => r.rounds (sineFirstQuarter i) && rotCheck n (i + 1) r.turn

set_option maxRecDepth 10000 in
theorem rotCheck_all : rotCheck 513 0 ⟨rotOne, 0, 0⟩ = true := by decide +kernel

/-- `r` is within its error of the point at `i` steps. -/
def Rot.Near (i : Nat) (r : Rot) : Prop :=
  |rotOne * Real.cos (i * (Real.pi / 1024)) - r.c| ≤ r.e ∧
    |rotOne * Real.sin (i * (Real.pi / 1024)) - r.s| ≤ r.e

theorem rot_bounds : |Real.cos (Real.pi/1024) - rotCos / rotOne| ≤ 4.7e-12 ∧ |Real.sin (Real.pi/1024) - rotSin/rotOne| ≤ 4.7e-12 ∧ |Real.sin (Real.pi/1024)| ≤ 0.0031 := by
  have h1 := Real.pi_gt_d20
  have h2 := Real.pi_lt_d20
  have hx : |Real.pi/1024| ≤ 1 := by rw [abs_le]; constructor <;> linarith
  have hc := Real.cos_bound hx
  have hs := Real.sin_bound hx
  have hpos : 0 ≤ Real.pi/1024 := by positivity
  rw [abs_of_nonneg hpos] at hc hs
  set t := Real.pi/1024 with ht
  have t1 : (0.00306796157577128245:ℝ) ≤ t := by rw [ht]; linarith
  have t2 : t ≤ (0.00306796157577128246:ℝ) := by rw [ht]; linarith
  have q1 : (0.00306796157577128245:ℝ)^2 ≤ t^2 := by gcongr
  have q2 : t^2 ≤ (0.00306796157577128246:ℝ)^2 := by gcongr
  have r1 : (0.00306796157577128245:ℝ)^3 ≤ t^3 := by gcongr
  have r2 : t^3 ≤ (0.00306796157577128246:ℝ)^3 := by gcongr
  have u2 : t^4 ≤ (0.00306796157577128246:ℝ)^4 := by gcongr
  have u3 : t^5 ≤ (0.00306796157577128246:ℝ)^5 := by gcongr
  rw [abs_le] at hc hs
  norm_num [abs_le] at *
  refine ⟨⟨?_, ?_⟩, ⟨?_, ?_⟩, ?_, ?_⟩ <;> linarith

theorem rot_near_turn {i : Nat} {r : Rot} (h : Rot.Near i r) (he : r.e < 10^9) (he0 : 0 ≤ r.e) (hc : |r.c| ≤ rotOne + 10^9) (hs : |r.s| ≤ rotOne + 10^9) : Rot.Near (i+1) r.turn := by
  obtain ⟨d1, d2, d3⟩ := rot_bounds
  obtain ⟨n1, n2⟩ := h
  have a : ((i+1 : ℕ):ℝ) * (Real.pi/1024) = i * (Real.pi/1024) + Real.pi/1024 := by push_cast; ring
  unfold Rot.Near
  rw [a, Real.cos_add, Real.sin_add]
  generalize i * (Real.pi/1024) = x at *
  have hb := Real.abs_cos_le_one (Real.pi/1024)
  set C := Real.cos x; set S := Real.sin x
  set c := Real.cos (Real.pi/1024); set s := Real.sin (Real.pi/1024)
  obtain ⟨rc, rs, e⟩ := r
  simp only [Rot.turn] at *
  have f1 : ∀ z : Int, |(z:ℝ) / rotOne - ((z / rotOne : Int):ℝ)| ≤ 1 := by
    intro z
    have h1 := Int.emod_add_mul_ediv z rotOne
    have h2 := Int.emod_nonneg z (show rotOne ≠ 0 by decide)
    have h3 := Int.emod_lt_of_pos z (show 0 < rotOne by decide)
    have e1 : (z:ℝ) = (z % rotOne : Int) + (rotOne:ℝ) * (z / rotOne : Int) := by exact_mod_cast h1.symm
    have hK : (0:ℝ) < (rotOne:ℝ) := by norm_num
    have e2 : (z:ℝ) / rotOne - ((z / rotOne : Int):ℝ) = ((z % rotOne : Int):ℝ) / rotOne := by rw [e1]; field_simp; ring
    rw [e2, abs_of_nonneg (div_nonneg (by exact_mod_cast h2) hK.le), div_le_one hK]
    exact_mod_cast h3.le
  have fe : ((e * 4 / 1000 : Int):ℝ) ≥ e * 4 / 1000 - 1 := by
    have : e * 4 < 1000 * (e * 4 / 1000) + 1000 := by omega
    have : (e:ℝ) * 4 < 1000 * ((e * 4 / 1000 : Int):ℝ) + 1000 := by exact_mod_cast this
    linarith
  have he' : (e:ℝ) < 10^9 := by exact_mod_cast he
  have he0' : (0:ℝ) ≤ e := by exact_mod_cast he0
  have hc' : |(rc:ℝ)| ≤ 10^15 + 10^9 := by exact_mod_cast hc
  have hs' : |(rs:ℝ)| ≤ 10^15 + 10^9 := by exact_mod_cast hs
  have bound : ∀ (P p P' p' q : ℝ), |P| ≤ p → |P'| ≤ p' → p * p' ≤ q → |P * P'| ≤ q := by
    intro P p P' p' q h1 h2 h3
    rw [abs_mul]; exact (mul_le_mul h1 h2 (abs_nonneg _) ((abs_nonneg _).trans h1)).trans h3
  have b1 := bound _ _ _ _ _ n1 hb le_rfl
  have b2 := bound _ _ _ _ _ n2 hb le_rfl
  have b3 := bound _ _ _ _ _ n1 d3 le_rfl
  have b4 := bound _ _ _ _ _ n2 d3 le_rfl
  have b5 := bound _ _ _ _ _ hc' d1 le_rfl
  have b6 := bound _ _ _ _ _ hc' d2 le_rfl
  have b7 := bound _ _ _ _ _ hs' d1 le_rfl
  have b8 := bound _ _ _ _ _ hs' d2 le_rfl
  have g1 := f1 (rc * rotCos - rs * rotSin)
  have g2 := f1 (rs * rotCos + rc * rotSin)
  rw [abs_le] at *
  push_cast at *
  rw [abs_le]
  refine ⟨⟨?_, ?_⟩, ?_, ?_⟩ <;> linarith

theorem rot_near_all : ∀ n i r, rotCheck n i r = true → Rot.Near i r → ∀ j, j < n → ∃ r', Rot.Near (i+j) r' ∧ r'.rounds (sineFirstQuarter (i+j)) = true := by
  intro n
  induction n with
  | zero => intro _ _ _ _ j hj; omega
  | succ n ih =>
    intro i r h hn j hj
    simp only [rotCheck, Bool.and_eq_true] at h
    cases j with
    | zero => exact ⟨r, hn, h.1⟩
    | succ j =>
      have h1 := h.1
      simp only [Rot.rounds, Bool.and_eq_true, decide_eq_true_eq] at h1
      obtain ⟨⟨⟨⟨-, x5⟩, x2⟩, x3⟩, x4⟩ := h1
      have := ih (i+1) r.turn h.2 (rot_near_turn hn x2 x5 x3 x4) j (by omega)
      rwa [show i + 1 + j = i + (j+1) by omega] at this

theorem sineFirstQuarter_near (j : Nat) (hj : j ≤ 512) : |32767 * Real.sin (j * (Real.pi/1024)) - sineFirstQuarter j| < 1/2 := by
  obtain ⟨r, h1, h2⟩ := rot_near_all 513 0 ⟨rotOne,0,0⟩ rotCheck_all (by simp [Rot.Near]) j (by omega)
  rw [Nat.zero_add] at h1 h2
  simp only [Rot.rounds, Bool.and_eq_true, decide_eq_true_eq] at h2
  have h3 := h2.1.1.1.1
  have h4 := h1.2
  have h5 : (|2 * (32767 * (r.s:ℝ) - ((sineFirstQuarter j:ℕ):ℝ) * rotOne)| + 65534 * r.e) < (rotOne:ℝ) := by exact_mod_cast h3
  set n : ℝ := ((sineFirstQuarter j:ℕ):ℝ)
  set x := Real.sin (j * (Real.pi/1024))
  have : |(rotOne:ℝ) * (32767 * x - n)| < rotOne / 2 := by
    have e : (rotOne:ℝ) * (32767 * x - n) = 32767 * (rotOne * x - r.s) + (32767 * r.s - n * rotOne) := by ring
    rw [e]
    rw [abs_mul] at h5
    have := abs_add_le (32767 * (rotOne * x - r.s)) (32767 * r.s - n * rotOne)
    rw [abs_mul] at this
    norm_num at *
    linarith
  rw [abs_mul] at this
  norm_num at this ⊢
  linarith

end Sys2Proof.Machine
end

