-- ==== Sys2Proof/Tests/Slice0.lean ====
section
/-! SUPPORT. Tests on the spec's own vectors, and a witness for the hypotheses of every obligation. The
expected values are those of spec/95_test_vectors.md ("95" below) or of the rule named; none comes from
the model. -/

namespace Sys2Proof.Machine.Tests

set_option Elab.async false

/-! ### Helpers -/

/-- The next state of a command (there is always one). -/
def after (i : Instr) (s : State) : State :=
  match exec i s with
  | .next t => t
  | .fault _ => s
  | .refused _ => s

/-- The next state of a step (there is always one). -/
def stepped (s : State) : State :=
  match step s with
  | .next t => t
  | .fault _ => s
  | .refused _ => s

/-- Reset with this pool and map. -/
def withPool (vs : List Voice) (map : List Byte) : State := (State.reset.setVoices vs).setMap map

/-- A voice on a channel and note, in an envelope state at a level. -/
def voiceAt (ch note : Nat) (st : EnvState) (level : Word) : Voice :=
  { carInc := 42852281, modInc := 85704562, modDepth := 1000000, amp := 32768, phase := 0, modPhase := 0,
    level := level, state := st, active := true, time := 4, note := BitVec.ofNat 7 note,
    channel := BitVec.ofNat 8 ch }

/-- Entry 0's note 69 in Sustain on channel 0, and three inactive voices. -/
def oneVoice : State :=
  withPool [voiceAt 0 69 .sustain 644245094, .inert, .inert, .inert] [0, 0, 0, 0]

/-- Four active voices, times 5, 7, 7, 2 (95 §2.3), two of them with the same channel and note. -/
def fullPool : State :=
  withPool [{ voiceAt 0 60 .attack 486958 with time := 5 }, { voiceAt 0 60 .attack 0 with time := 7 },
    { voiceAt 1 62 .sustain 644245094 with time := 7 }, { voiceAt 3 69 .release 48697 with time := 2 }]
    [0, 1, 2, 3]

/-- Voices that only show their `active` and `time` to the allocator. -/
def timed (l : List (Bool × Word)) : List Voice :=
  l.map fun p => { Voice.inert with active := p.1, time := p.2 }

/-! ### WellFormed: each check refuses an ill-formed term (30_encoding.md R71) -/

theorem test_wf_accepts_every_field_maximum :
    (Instr.noteOn 255 127 127).WellFormed ∧ (Instr.setInstrument 255 255).WellFormed ∧
      (Instr.setVolume 127).WellFormed ∧ (Instr.setMaxNotes 255).WellFormed := by decide

theorem test_wf_refuses_wide_channel :
    ¬(Instr.noteOn 256 0 0).WellFormed ∧ ¬(Instr.noteOff 256 0).WellFormed ∧
      ¬(Instr.setInstrument 256 0).WellFormed ∧ ¬(Instr.alterVol 256 0).WellFormed ∧
      ¬(Instr.alterPitch 256 0).WellFormed := by decide

theorem test_wf_refuses_wide_note :
    ¬(Instr.noteOn 0 128 0).WellFormed ∧ ¬(Instr.noteOff 0 128).WellFormed := by decide

theorem test_wf_refuses_wide_velocity :
    ¬(Instr.noteOn 0 0 128).WellFormed ∧ ¬(Instr.alterVol 0 128).WellFormed := by decide

theorem test_wf_refuses_wide_index : ¬(Instr.setInstrument 0 256).WellFormed := by decide

theorem test_wf_refuses_wide_percent : ¬(Instr.setVolume 128).WellFormed := by decide

theorem test_wf_refuses_wide_bend : ¬(Instr.alterPitch 0 128).WellFormed := by decide

theorem test_wf_refuses_wide_count : ¬(Instr.setMaxNotes 256).WellFormed := by decide

/-! ### Decode: words written out from R73's patterns -/

theorem test_decode_nop :
    decode 0b00000000000000000000000000000000 = .ok .nop := by rfl

theorem test_decode_note_on :
    decode 0b00010000000000110111111100000001 = .ok (.noteOn 3 127 1) := by rfl

theorem test_decode_note_off :
    decode 0b00100000111111110000000000000000 = .ok (.noteOff 255 0) := by rfl

theorem test_decode_all_notes_off :
    decode 0b00110000000000000000000000000000 = .ok .allNotesOff := by rfl

theorem test_decode_set_instrument :
    decode 0b01000000000000011000001100000000 = .ok (.setInstrument 1 0x83) := by rfl

theorem test_decode_set_volume :
    decode 0b01010000000000000011001000000000 = .ok (.setVolume 50) := by rfl

theorem test_decode_alter_vol :
    decode 0b01100000000000100100000000000000 = .ok (.alterVol 2 64) := by rfl

theorem test_decode_alter_pitch :
    decode 0b01110000000000010100100000000000 = .ok (.alterPitch 1 72) := by rfl

theorem test_decode_set_max_notes :
    decode 0b10000000000000001111111100000000 = .ok (.setMaxNotes 255) := by rfl

/-- 95 §2.1, the rows ignored as `ReservedBits`. -/
theorem test_decode_reserved_bits :
    [0x00000001, 0x01000000, 0x10004580, 0x1000C57F, 0x1FFFFFFF, 0x20004501, 0x30000100, 0x40010301,
        0x50013200, 0x5000B200, 0x5000FF00, 0x80010600].map (wordReason exampleConfig) =
      List.replicate 12 (some .reservedBits) := by decide +kernel

/-- 95 §2.1, the rows ignored as `ReservedOpcode`. -/
theorem test_decode_reserved_opcode :
    [0x90000000, 0xF0000000, 0xFFFFFFFF].map (wordReason exampleConfig) =
      List.replicate 3 (some .reservedOpcode) := by decide +kernel

/-- 95 §2.1 and W13, W14: the range reasons and their priority (R193). -/
theorem test_range_reasons :
    wordReason exampleConfig 0x1004457F = some .channelRange ∧
      wordReason exampleConfig 0x40000400 = some .instrumentRange ∧
      wordReason exampleConfig 0x40040400 = some .channelRange ∧
      wordReason exampleConfig 0x1000457F = none := by decide +kernel

theorem test_table_word_is_the_word :
    decodeTableWord 32 0x1000457F = some (.noteOn 0 69 127) ∧ decodeTableWord 32 0x90000000 = none := by
  decide +kernel

/-! ### The ROMs and the pitch unit -/

/-- R51, its selected values. -/
theorem test_sine_rom :
    [0, 1, 256, 512, 1024, 1025, 1536, 2047].map sineRom =
      [0, 101, 23170, 32767, 0, -101, -32767, -101] := by decide +kernel

/-- R53, its selected values. -/
theorem test_freq_rom :
    [0, 1, 64, 384, 704, 767].map freqRom =
      [2147483648, 2149422703, 2275179671, 3037000500, 4053909305, 4291092685] := by decide +kernel

/-- 95 §2.2. -/
theorem test_pitch_inc :
    [4416, 5184, 3648, 3840, 4384, 3808, 0, -16320, 12544, 40895, 41903, -33792].map
        (fun p => (pitchInc 42852281 p).toNat) =
      [42852281, 85704562, 21426140, 25480118, 41632359, 24754749, 796253, 0, 1322307458, 3170893824,
       3157131264, 0] := by decide +kernel

/-- 95 §2.2. -/
theorem test_mod_inc :
    [0, 1, 256, 384, 512, 65535].map (fun m => (modIncOf 42852281 m).toNat) =
      [0, 167391, 42852281, 64278421, 85704562, 2380081952] ∧
    modIncOf 3170893824 65535 = 4282580992 := by decide +kernel

/-! ### Commands -/

theorem test_nop : after .nop fullPool = fullPool := by rfl

/-- 95 §2.3. -/
theorem test_allocate :
    allocate (timed [(true, 443), (false, 443), (true, 443), (true, 443)]) = 1 ∧
      allocate (timed [(true, 10), (true, 9), (true, 7), (true, 4)]) = 0 ∧
      allocate (timed [(true, 1), (true, 4), (true, 3), (true, 2)]) = 1 ∧
      allocate (timed [(true, 5), (true, 7), (true, 7), (true, 2)]) = 1 ∧
      allocate (timed [(true, 0xFFFFFFFF), (true, 0xFFFFFFFF)]) = 0 := by decide +kernel

/-- 95 §2.4, entry 3: a negative pitch offset and both velocity scalings. -/
theorem test_note_on_detune :
    (after (.noteOn 3 60 100) fullPool).voices[1]? =
      some { carInc := 24754749, modInc := 37132123, modDepth := 393700, amp := 12900, phase := 0,
             modPhase := 0, level := 0, state := .attack, active := true, time := 0, note := 60,
             channel := 3 } := by decide +kernel

/-- W13. -/
theorem test_note_on_channel_range : after (.noteOn 4 69 127) State.reset = State.reset := by rfl

/-- 95 §2.5: two copies of a note, and only the lower index is released. -/
theorem test_note_off_first_match :
    (after (.noteOff 0 60) fullPool).voices.map (·.state) = [.release, .attack, .sustain, .release] ∧
      (after (.noteOff 0 60) fullPool).voices.map (·.level) =
        fullPool.voices.map (·.level) := by decide +kernel

/-- 95 §2.5: a one-shot instrument. -/
theorem test_note_off_one_shot :
    after (.noteOff 1 62) fullPool = fullPool := by decide +kernel

/-- 95 §2.5. -/
theorem test_all_notes_off :
    (after .allNotesOff fullPool).voices.map (fun v => (v.active, v.state, v.level, v.time, v.note)) =
        List.replicate 4 (false, .idle, 0, 0, 0) ∧
      (after .allNotesOff fullPool).voices.map (fun v => (v.carInc, v.amp)) =
        fullPool.voices.map (fun v => (v.carInc, v.amp)) := by decide +kernel

/-- W14. -/
theorem test_set_instrument :
    (after (.setInstrument 3 3) State.reset).map = [0, 0, 0, 3] ∧
      after (.setInstrument 0 4) State.reset = State.reset ∧
      after (.setInstrument 4 0) State.reset = State.reset := by decide +kernel

/-- 95 §2.9. -/
theorem test_set_volume :
    [0, 1, 33, 50, 99, 100, 101, 127].map (fun p => (after (.setVolume p) State.reset).vol.toNat) =
      [0, 327, 10813, 16384, 32440, 32768, 32768, 32768] := by decide +kernel

/-- 95 §2.9. -/
theorem test_alter_vol :
    [0, 1, 64, 100, 127].map (fun v => ((after (.alterVol 0 v) oneVoice).voices.map (·.amp)).head?) =
      [some 0, some 258, some 16513, some 25801, some 32768] := by decide +kernel

/-- 95 §2.9: two voices on channel 0; the other two keep their gain. -/
theorem test_alter_vol_whole_channel :
    (after (.alterVol 0 10) fullPool).voices.map (·.amp) = [2580, 2580, 32768, 32768] := by
  decide +kernel

/-- 95 §2.9. -/
theorem test_alter_pitch :
    [0, 63, 64, 65, 72, 127].map (fun b =>
        ((after (.alterPitch 0 b) oneVoice).voices.map fun v => (v.carInc, v.modInc)).head?) =
      [some (17005938, 34011876), some (42237916, 84475832), some (42852281, 85704562),
       some (43475581, 86951162), some (48100059, 96200118), some (106432879, 212865758)] := by
  decide +kernel

/-- 95 §2.9: entry 3 on channel 3, note 69. -/
theorem test_alter_pitch_detune :
    ((after (.alterPitch 3 0) fullPool).voices.map fun v => (v.carInc, v.modInc))[3]? =
      some (16521812, 24782718) := by decide +kernel

/-- W15. -/
theorem test_set_max_notes :
    [0, 1, 3, 4, 5, 255].map (fun n => (after (.setMaxNotes n) State.reset).maxn.toNat) =
      [1, 1, 3, 4, 4, 4] := by decide +kernel

/-! ### The envelope (95 §2.6) -/

/-- One step's state and level. -/
def env (ins : Instrument) (st : EnvState) (l : Word) : EnvState × Nat × Bool :=
  let v := envStep ins (voiceAt 0 69 st l)
  (v.state, v.level.toNat, v.active)

theorem test_env_scenario :
    [env bankScenario .attack 0, env bankScenario .attack 1073255432, env bankScenario .attack 1073254866,
      env bankScenario .attack 1073254865, env bankScenario .decay 1073741824,
      env bankScenario .decay 644277559, env bankScenario .decay 644277560,
      env bankScenario .sustain 1073741824, env bankScenario .release 48697,
      env bankScenario .release 48696] =
    [(.attack, 486958, true), (.decay, 1073741824, true), (.decay, 1073741824, true),
      (.attack, 1073741823, true), (.decay, 1073709359, true), (.sustain, 644245094, true),
      (.decay, 644245095, true), (.sustain, 644245094, true), (.release, 1, true),
      (.idle, 0, false)] := by decide +kernel

theorem test_env_guards :
    [env bankOneShot .attack 0, env bankOneShot .decay 2434789, env bankOneShot .decay 2434790,
      env bankOneShot .release 0, env bankOrgan .decay 1073741824, env bankOrgan .release 1073741824,
      env bankDetune .release 1073741824, env bankDetune .release 536870912] =
    [(.decay, 1073741824, true), (.release, 0, true), (.decay, 1, true), (.idle, 0, false),
      (.sustain, 1073741824, true), (.idle, 0, false), (.release, 536870912, true),
      (.idle, 0, false)] := by decide +kernel

/-! ### The datapath and the Tick (95 §2.7, §2.8) -/

theorem test_sine_reader :
    [0, 0x001FFFFF, 0x00200000, 42852281, 85704562, 0x20000000, 0x40000000, 0x80000000, 0x80200000,
        0xC0000000, 0xFFFFFFFF].map sine =
      [0, 0, 101, 2009, 4011, 23170, 32767, 0, -101, -32767, -101] := by decide +kernel

theorem test_deviation :
    [4011, 32767, -32767, 0].map (deviation 1000000) = [122406, 999969, -999970, 0] := by decide +kernel

theorem test_contribution :
    contributionOf 32767 32768 1073741824 32768 = 32767 ∧
      contributionOf (-32767) 32768 1073741824 32768 = -32767 ∧
      contributionOf 2009 32768 486958 32768 = 0 ∧ contributionOf 4111 32768 973916 32768 = 3 ∧
      contributionOf 8059 32768 644245094 32768 = 4835 ∧
      contributionOf 2009 32768 1073741824 16384 = 1004 ∧
      contributionOf (-1) 1 1073741824 32768 = -1 ∧
      contributionOf 32767 65535 1073741824 32768 = 65533 := by decide +kernel

/-- By hand from R145: floor(-32767 * 65535 / 32768) = floor(-65533.00003) = -65534 (log 19). -/
theorem test_contribution_least : contributionOf (-32767) 65535 1073741824 32768 = -65534 := by
  decide +kernel

theorem test_quantizer :
    ([0, 1, -1, -2, 16384, -16384, 32767, 32768, 32769, 131064, -32767, -32768, -40000] : List Int).map
        (fun a => frameOf (quantize a)) =
      [0, 0, 0, 0xFFFFFFFF, 0x3FFF3FFF, 0xC001C001, 0x7FFE7FFE, 0x7FFF7FFF, 0x7FFF7FFF, 0x7FFF7FFF,
       0x80028002, 0x80018001, 0x80018001] := by decide +kernel

/-- 95 §2.8: reset, then a Tick. -/
theorem test_tick_after_reset :
    tickState State.reset = { State.reset with output := [0] } := by decide +kernel

/-- 95 §2.8, entry 0, its Tick 2, from the values after Tick 1. -/
theorem test_tick_scenario :
    let v1 : Voice := { voiceAt 0 69 .attack 486958 with
      phase := 42974687, modPhase := 85704562, time := 1 }
    let t := tickState (withPool [v1, .inert, .inert, .inert] [0, 0, 0, 0])
    t.frame = 0x00020002 ∧ t.voices[0]? = some { v1 with
      phase := 86072909, modPhase := 171409124, level := 973916, time := 2 } := by decide +kernel

/-- Program P1, Ticks 5 and 6: a Release that ends runs no oscillator and gives frame 0. -/
theorem test_tick_release_ends :
    let v5 : Voice := {
      carInc := 50960237, modInc := 50960237, modDepth := 0, amp := 32768,
      phase := 222369361, modPhase := 222369361, level := 1073741824, state := .release, active := true,
      time := 5, note := 69, channel := 0 }
    let t := tickState (withPool [v5, .inert, .inert, .inert] [2, 0, 0, 0])
    t.frame = 0 ∧ t.voices[0]? = some { v5 with
      level := 0, state := .idle, active := false, time := 6 } := by
  decide +kernel

/-- 95 §2.8: `time` saturates. -/
theorem test_tick_time_saturates :
    (tickState (withPool [{ voiceAt 0 69 .sustain 0 with time := 0xFFFFFFFF }] [0])).voices.map
      (·.time) = [0xFFFFFFFF] := by decide +kernel

/-- Program P5, Tick 1: four voices at 2009 in phase; acc 8036. -/
theorem test_tick_mixes :
    (tickState (withPool ([0, 1, 2, 3].map fun c => { voiceAt c 69 .attack 0 with modDepth := 0 })
      [2, 2, 2, 2])).frame = 0x1F631F63 := by decide +kernel

/-! ### Steps -/

theorem test_step_runs_the_fetched_word :
    stepped (State.reset.withFetchWord 32 0x50003200) = after (.setVolume 50) State.reset := by
  decide +kernel

theorem test_step_reset :
    stepped (fullPool.deliver [.rst]) = State.reset := by decide +kernel

/-! ### The builder and the assembler -/

/-- R56's example, in 95 §0's document units. -/
theorem test_build_scenario :
    buildEntry ⟨1, 0, 5 / 100, 3 / 10, 6 / 10, 5 / 10, 2, 0, 0⟩ 0 44100 =
      { bankScenario with fmAmpStart := 0 } := by decide +kernel

/-- 95 §0: entry 3 is −0.5 semitone, ratio 1.5, a release of two Ticks, loudness 0.5. -/
theorem test_build_detune :
    buildEntry ⟨1 / 2, -1 / 2, 0, 0, 1, 2 / 44100, 3 / 2, 0, 0⟩ 0 44100 =
      { bankDetune with fmAmpStart := 0 } := by decide +kernel

/-- 00_scope.md R7. -/
theorem test_a440 : a440IncFor 44100 = 42852281 ∧ Tuned exampleConfig := by decide +kernel

/-- 95 §0, the image words of entries 0 and 3. -/
theorem test_image :
    imageOf bankScenario = [0x00008000, 0x00076E2E, 0x00013D08, 0x26666666, 0x0000BE38, 0x00000200,
        0x000F4240, 0, 0] ∧
      imageOf bankDetune = [0xFFE04000, 0, 0, 0x40000000, 0x20000000, 0x00000180, 0x0007A120, 0, 0] := by
  decide +kernel

/-- 95 §2.1, the assembly rows, R77 and R78. The first word is R73's: 95 prints 13037F01 there, whose
RSV field is not 0 (log 20). -/
theorem test_assembler_rows :
    assembleLine "noteon 3, 127, 1" = some [.cmd 0x10037F01] ∧
      assembleLine "noteoff 255, 0" = some [.cmd 0x20FF0000] ∧
      assembleLine "bendcenter 1" = some [.cmd 0x70014000] ∧
      assembleLine "setinst 0, 0x2 ; channel 0" = some [.cmd 0x40000200] ∧
      assembleLine "noteon 2, 60" = some [.cmd 0x10023C7F] ∧
      assembleLine "tick 2" = some [.tick, .tick] := by decide +kernel

/-- R77: what the assembler refuses, and what it leaves to the CORE. -/
theorem test_assembler_refuses :
    assembleLine "noteon 0, 128" = none ∧ assembleLine "noteoff 256, 0" = none ∧
      assembleLine "noteon 4, 69, 127" = some [.cmd 0x1004457F] := by decide +kernel

/-! ### Witnesses: a concrete state and operands for the hypotheses of each obligation

Each is named after its obligation; the parts of a conjunction follow the obligation's clauses, at the
boundary values of their ranges. -/

theorem witness_ResetLeavesTheInertState :
    fullPool.cfg.Legal ∧ (fullPool.deliver [.rst, .tick]).input = .rst :: [.tick] := by decide

theorem witness_ResetStateKeepsTheInvariant : exampleConfig.Legal ∧ State.reset.Inv := by decide +kernel

theorem fullPool_inv : fullPool.Inv := by decide +kernel

theorem witness_EveryStepKeepsTheInvariant :
    (fullPool.deliver [.tick]).Inv ∧
      step (fullPool.deliver [.tick]) = .next (stepped (fullPool.deliver [.tick])) :=
  ⟨fullPool_inv, rfl⟩

/-- Reset, then a NOTE_ON delivered and stepped: a reachable state with an active voice. -/
theorem witness_ReachableStatesKeepTheVoiceRanges :
    exampleConfig.Legal ∧ Reachable exampleConfig (stepped (State.reset.deliver [.cmd 0x1003457F])) ∧
      ∃ v ∈ (stepped (State.reset.deliver [.cmd 0x1003457F])).voices, v.active = true :=
  ⟨by decide, .step (.deliver [.cmd 0x1003457F] .reset) rfl, by decide +kernel⟩

theorem witness_StepAppliesTheNextEvent :
    ((fullPool.deliver [.cmd 0x20003C00, .tick]).input = .cmd 0x20003C00 :: [.tick] ∧
        decode 0x20003C00 = .ok (.noteOff 0 60)) ∧
      ((fullPool.deliver [.cmd 0x90000000]).input = .cmd 0x90000000 :: [] ∧
        decode 0x90000000 = .error .reservedOpcode) ∧
      (fullPool.deliver [.tick]).input = .tick :: [] ∧
      (fullPool.deliver [.rst]).input = .rst :: [] :=
  ⟨⟨rfl, rfl⟩, ⟨rfl, rfl⟩, rfl, rfl⟩

theorem witness_PauseHoldsTheState : fullPool.input = [] := rfl

theorem witness_CommandAtTheSameInstantGoesFirst :
    oneVoice.input = [] ∧ execCmd 0x50000000 oneVoice = .next (after (.setVolume 0) oneVoice) ∧
      execTick (after (.setVolume 0) oneVoice) = .next (tickState (after (.setVolume 0) oneVoice)) :=
  ⟨rfl, rfl, rfl⟩

/-- Opcodes 9 and 15; opcodes 8 and 0 with a reserved bit set. -/
theorem witness_ReservedWordsAreIgnored :
    (fullPool.deliver [.cmd 0x90000000]).input = .cmd 0x90000000 :: [] ∧
      9 ≤ field 0x90000000 31 28 ∧ 9 ≤ field 0xFFFFFFFF 31 28 ∧
      (field 0x80010600 31 28 ≤ 8 ∧ (0x80010600 : Word) &&& reservedZero (field 0x80010600 31 28) ≠ 0) ∧
      (field 0x00000001 31 28 ≤ 8 ∧ (0x00000001 : Word) &&& reservedZero (field 0x00000001 31 28) ≠ 0) := by
  decide

/-- Row 1 of the obligation's table, with a word that matches it and one that does not. -/
theorem witness_WordIsTheCommandOfTheRowItMatches :
    (0x1, 0x10000000, 0xFF008080) ∈ ([(0x0, 0x00000000, 0xFFFFFFFF), (0x1, 0x10000000, 0xFF008080),
      (0x2, 0x20000000, 0xFF0080FF), (0x3, 0x30000000, 0xFFFFFFFF), (0x4, 0x40000000, 0xFF0000FF),
      (0x5, 0x50000000, 0xFFFF80FF), (0x6, 0x60000000, 0xFF0080FF), (0x7, 0x70000000, 0xFF0080FF),
      (0x8, 0x80000000, 0xFFFF00FF)] : List (Nat × Word × Word)) ∧
      (0x1000457F : Word) &&& 0xFF008080 = 0x10000000 ∧ (0x10004580 : Word) &&& 0xFF008080 ≠ 0x10000000 := by
  decide

theorem witness_DecodeOfEncodeIsTheInstruction :
    (Instr.noteOn 255 127 127).WellFormed ∧ (Instr.setMaxNotes 255).WellFormed := by decide

theorem witness_EncodeOfDecodeIsTheWord :
    decode 0x10FF7F7F = .ok (.noteOn 255 127 127) ∧ decode 0 = .ok .nop := ⟨rfl, rfl⟩

/-- The first channel out of range; the last in range with the first index out of range. -/
theorem witness_OutOfRangeCommandsAreIgnored :
    State.reset.cfg.nv ≤ 4 ∧ 3 < State.reset.cfg.nv ∧ State.reset.cfg.ni ≤ 4 := by decide

theorem witness_AllocateTakesTheFirstFreeElseTheOldest :
    oneVoice.voices ≠ [] ∧ (∃ w ∈ oneVoice.voices, w.active = false) ∧
      fullPool.voices ≠ [] ∧ ∀ w ∈ fullPool.voices, w.active = true := by decide +kernel

theorem witness_NoteOnClaimsTheAllocatedVoice :
    (Instr.noteOn 4 127 127).WellFormed ∧ fullPool.cfg.nv ≤ 4 ∧
      (Instr.noteOn 3 127 127).WellFormed ∧ 3 < fullPool.cfg.nv ∧
      fullPool.voices.length = fullPool.cfg.nv := by decide

/-- Out of range; no match; a first match with and without sustain. -/
theorem witness_NoteOffReleasesTheFirstMatch :
    ((Instr.noteOff 4 60).WellFormed ∧ fullPool.cfg.nv ≤ 4) ∧
      ((Instr.noteOff 0 61).WellFormed ∧ 0 < fullPool.cfg.nv ∧ ∀ v ∈ fullPool.voices, ¬v.Plays 0 61) ∧
      ((∃ v, fullPool.voices[0]? = some v ∧ v.Plays 0 60) ∧
        effSus (fullPool.instrumentOf 0).sustain ≠ 0) ∧
      ((∃ v, fullPool.voices[2]? = some v ∧ v.Plays 1 62) ∧
        (∀ w ∈ fullPool.voices.take 2, ¬w.Plays 1 62) ∧
        effSus (fullPool.instrumentOf 1).sustain = 0) :=
  ⟨by decide, by decide +kernel, ⟨⟨_, rfl, by decide⟩, by decide +kernel⟩,
    ⟨⟨_, rfl, by decide⟩, by decide +kernel, by decide +kernel⟩⟩

theorem witness_AllNotesOffIsIdempotent :
    exec .allNotesOff fullPool = .next (after .allNotesOff fullPool) := rfl

/-- A channel out of range; an index out of range; both at the last value in range. -/
theorem witness_SetInstrumentWritesTheMap :
    ((Instr.setInstrument 4 0).WellFormed ∧ State.reset.cfg.nv ≤ 4) ∧
      ((Instr.setInstrument 0 4).WellFormed ∧ State.reset.cfg.ni ≤ 4) ∧
      ((Instr.setInstrument 3 3).WellFormed ∧ 3 < State.reset.cfg.nv ∧ 3 < State.reset.cfg.ni ∧
        State.reset.map.length = State.reset.cfg.nv) := by decide

theorem witness_SetVolumeScalesTheClampedPercent :
    (Instr.setVolume 0).WellFormed ∧ (Instr.setVolume 127).WellFormed := by decide

theorem witness_AlterVolRescalesTheChannel :
    ((Instr.alterVol 4 64).WellFormed ∧ fullPool.cfg.nv ≤ 4) ∧
      ((Instr.alterVol 3 127).WellFormed ∧ 3 < fullPool.cfg.nv ∧
        (∃ v, fullPool.voices[3]? = some v ∧ v.SoundsOn 3) ∧
        ∃ v, fullPool.voices[0]? = some v ∧ ¬v.SoundsOn 3) :=
  ⟨by decide, by decide, by decide, ⟨_, rfl, by decide⟩, ⟨_, rfl, by decide⟩⟩

theorem witness_AlterPitchBendsTheChannel :
    ((Instr.alterPitch 4 64).WellFormed ∧ fullPool.cfg.nv ≤ 4) ∧
      ((Instr.alterPitch 3 127).WellFormed ∧ 3 < fullPool.cfg.nv ∧
        (∃ v, fullPool.voices[3]? = some v ∧ v.SoundsOn 3) ∧
        ∃ v, fullPool.voices[0]? = some v ∧ ¬v.SoundsOn 3) :=
  ⟨by decide, by decide, by decide, ⟨_, rfl, by decide⟩, ⟨_, rfl, by decide⟩⟩

theorem witness_BendsDoNotAdd :
    exec (.alterPitch 0 127) oneVoice = .next (after (.alterPitch 0 127) oneVoice) := rfl

theorem witness_BendCentreKeepsTheNoteOnPitch :
    (Instr.noteOn 3 69 127).WellFormed ∧
      exec (.noteOn 3 69 127) fullPool = .next (after (.noteOn 3 69 127) fullPool) ∧
      exec (.alterPitch 3 64) (after (.noteOn 3 69 127) fullPool) =
        .next (after (.alterPitch 3 64) (after (.noteOn 3 69 127) fullPool)) ∧
      3 < fullPool.cfg.nv :=
  ⟨by decide, rfl, rfl, by decide⟩

theorem witness_SetMaxNotesClampsTheCeiling :
    (Instr.setMaxNotes 0).WellFormed ∧ (Instr.setMaxNotes 255).WellFormed ∧ State.reset.cfg.Legal := by
  decide

/-- An octave of 0 with step 0, one below it with step 767, and one far below. -/
theorem witness_PitchIncFollowsOctaveAndStep :
    ((0 : Nat) < 768 ∧ (4416 : Int) - 69 * 64 = 768 * 0 + (0 : Nat)) ∧
      ((767 : Nat) < 768 ∧ (4415 : Int) - 69 * 64 = 768 * (-1) + (767 : Nat)) ∧
      ((0 : Nat) < 768 ∧ (-16320 : Int) - 69 * 64 = 768 * (-27) + (0 : Nat)) := by decide

theorem witness_FreqRomHoldsTheRoundedExponential : 0 < 768 ∧ 767 < 768 := by decide

theorem witness_SineRomHoldsTheRoundedSine :
    2047 < 2048 ∧ ∃ x : ℝ, x = 32767 * Real.sin (2 * Real.pi * (2047 : ℕ) / 2048) :=
  ⟨by decide, _, rfl⟩

theorem witness_ModIncScalesTheCarrier : ∃ m n : Half, m = 0 ∧ n = 256 := ⟨_, _, rfl, rfl⟩

/-- Rates at both ends of what `effRate` replaces, and of what it keeps. -/
theorem witness_EffectiveValuesAreInRange :
    (0 : Word) = 0 ∧ 2 ^ 30 < (1073741825 : Word).toNat ∧
      ¬((1073741824 : Word) = 0 ∨ 2 ^ 30 < (1073741824 : Word).toNat) := by decide

/-- A level that reaches full scale exactly, one that stays one below it, and level 0. -/
theorem witness_AttackRisesToFullScale :
    (voiceAt 0 69 .attack 1073254866).state = .attack ∧
      2 ^ 30 ≤ (voiceAt 0 69 .attack 1073254866).level.toNat + effRate bankScenario.attackRate ∧
      (voiceAt 0 69 .attack 1073254865).level.toNat + effRate bankScenario.attackRate < 2 ^ 30 ∧
      (voiceAt 0 69 .attack 0).level = 0 := by decide +kernel

/-- A level exactly at the sustain plus the drop, one above it, and full scale. -/
theorem witness_DecayFallsToTheSustainLevel :
    (voiceAt 0 69 .decay 0).state = .decay ∧ 644245094 = effSus bankScenario.sustain ∧
      32465 = ceilDiv (effRate bankScenario.decayRate * (2 ^ 30 - 644245094)) (2 ^ 30) ∧
      (voiceAt 0 69 .decay 644277559).level.toNat ≤ 644245094 + 32465 ∧
      644245094 + 32465 < (voiceAt 0 69 .decay 644277560).level.toNat ∧
      (voiceAt 0 69 .decay 1073741824).level.toNat = 2 ^ 30 := by decide +kernel

theorem witness_ZeroSustainRunsOneReleaseTick :
    (voiceAt 0 60 .decay 2434789).state = .decay ∧ effSus bankOneShot.sustain = 0 ∧
      (voiceAt 0 60 .decay 2434789).level.toNat ≤ decayDrop bankOneShot := by decide +kernel

theorem witness_SustainHoldsTheSustainLevel : (voiceAt 0 69 .sustain 0).state = .sustain := by decide

theorem witness_ReleaseFallsToIdle :
    (voiceAt 0 69 .release 0).state = .release ∧ 48696 = effRate bankScenario.releaseRate ∧
      (voiceAt 0 69 .release 48696).level.toNat ≤ 48696 ∧
      48696 < (voiceAt 0 69 .release 48697).level.toNat := by decide +kernel

theorem witness_EnvelopeTerminates :
    (voiceAt 0 69 .attack 0).state = .attack ∧ (voiceAt 0 69 .attack 0).level = 0 ∧
      (voiceAt 0 69 .sustain 1073741824).level.toNat ≤ 2 ^ 30 := by decide

theorem witness_ScenarioReachesSustainOnTime :
    ∃ v, v = claimedVoice exampleConfig bankScenario 0 69 127 ∧ v.state = .attack := ⟨_, rfl, rfl⟩

theorem witness_TickVisitsEveryVoiceAndMixes :
    fullPool.voices[3]? = some { voiceAt 3 69 .release 48697 with time := 2 } := rfl

/-- An inactive voice; a Release that ends; a voice that sounds. -/
theorem witness_VoiceVisitFollowsTheDatapath :
    Voice.inert.active = false ∧
      ((voiceAt 0 69 .release 48696).active = true ∧
        (envStep bankScenario (voiceAt 0 69 .release 48696).age).active = false) ∧
      ((voiceAt 0 69 .release 48697).active = true ∧
        (envStep bankScenario (voiceAt 0 69 .release 48697).age).active = true) := by decide +kernel

theorem witness_TickLeavesControlStateAlone :
    execTick fullPool = .next (tickState fullPool) ∧ fullPool.voices[0]?.isSome ∧
      (tickState fullPool).voices[0]?.isSome := ⟨rfl, by decide, by decide +kernel⟩

theorem witness_OutputIsClampedAndSilentWhenItMust :
    execTick fullPool = .next (tickState fullPool) ∧
      execTick (fullPool.setVol 0) = .next (tickState (fullPool.setVol 0)) ∧ (fullPool.setVol 0).vol = 0 ∧
      execTick State.reset = .next (tickState State.reset) ∧ ∀ v ∈ State.reset.voices, v.active = false :=
  ⟨rfl, rfl, rfl, rfl, by decide⟩

theorem witness_ContributionAndSumAreBounded :
    (-32767 ≤ (32767 : Int) ∧ (32767 : Int) ≤ 32767 ∧ (1073741824 : Word).toNat ≤ 2 ^ 30 ∧
        (32768 : Half).toNat ≤ 32768) ∧
      fullPool.Inv ∧ ∃ acc : Int,
        acc = (fullPool.voices.map fun v =>
          (voiceTick (fullPool.instrumentOf v.channel.toNat) fullPool.vol v).2).sum :=
  ⟨by decide, fullPool_inv, _, rfl⟩

theorem witness_SilentVoicesContributeZero :
    ((0 : Half) = 0) ∧ (32767 : Word).toNat < 2 ^ 15 ∧ ¬(32768 : Word).toNat < 2 ^ 15 := by decide

theorem witness_QuantizerClampsAndTruncates :
    (∃ x : Int, x = min (max 100000 (-32768)) 32768 ∧ 0 ≤ x) ∧
      ∃ x : Int, x = min (max (-2) (-32768)) 32768 ∧ x < 0 := ⟨⟨_, rfl, by decide⟩, _, rfl, by decide⟩

/-- Entry 2's note at full scale on channel 2. -/
def organPool : State :=
  withPool [voiceAt 2 69 .sustain 1073741824, .inert, .inert, .inert] [0, 1, 2, 3]

theorem witness_NoStepWritesTheRoms :
    step (fullPool.deliver [.tick]) = .next (stepped (fullPool.deliver [.tick])) := rfl

/-- A Tick that changes FRAME and returns a frame, and a reset that changes FRAME. -/
theorem witness_OnlyTickAndResetChangeTheFrame :
    (step (organPool.deliver [.tick]) = .next (stepped (organPool.deliver [.tick])) ∧
        (stepped (organPool.deliver [.tick])).frame ≠ organPool.frame ∧
        (stepped (organPool.deliver [.tick])).output ≠ organPool.output ∧
        (organPool.deliver [.tick]).input.head? = some .tick) ∧
      (step ((tickState organPool).deliver [.rst]) = .next (stepped ((tickState organPool).deliver [.rst])) ∧
        (stepped ((tickState organPool).deliver [.rst])).frame ≠ (tickState organPool).frame) :=
  ⟨⟨rfl, by decide +kernel, by decide +kernel, rfl⟩, rfl, by decide +kernel⟩

theorem witness_OnlySetMaxNotesAndResetMoveTheCeilingPort :
    step (fullPool.deliver [.cmd 0x80000100]) = .next (stepped (fullPool.deliver [.cmd 0x80000100])) ∧
      (stepped (fullPool.deliver [.cmd 0x80000100])).maxNotesOut ≠ fullPool.maxNotesOut :=
  ⟨rfl, by decide +kernel⟩

theorem witness_CommandsWriteOnlyControlState :
    exec (.noteOn 0 69 127) fullPool = .next (after (.noteOn 0 69 127) fullPool) := rfl

theorem witness_CeilingIsAdvisory :
    step (fullPool.deliver [.tick]) = .next (stepped (fullPool.deliver [.tick])) ∧
      (1 : Count) ≠ fullPool.maxn := ⟨rfl, by decide⟩

/-- Two states that differ in an inactive voice's note and time, and a step from the first. -/
theorem witness_InactiveVoiceRecordsAreUnobservable :
    ∃ s t : State, s ≠ t ∧ s.Alike t ∧ step s = .next (stepped s) ∧ s.input ≠ [] :=
  ⟨oneVoice.deliver [.cmd 0x1000457F, .tick],
    (oneVoice.setVoices [voiceAt 0 69 .sustain 644245094, { Voice.inert with note := 60, time := 443 },
      .inert, .inert]).deliver [.cmd 0x1000457F, .tick],
    by decide +kernel,
    ⟨rfl, rfl, rfl, rfl, rfl, rfl, rfl,
      .cons (.inl rfl) (.cons (.inr ⟨rfl, rfl⟩) (.cons (.inl rfl) (.cons (.inl rfl) .nil)))⟩,
    rfl, by decide⟩

theorem witness_BuiltRatesAreEffective :
    0 < 44100 ∧ (0 : Rat) < 5 / 100 ∧ (0 : Rat) ≤ 0 := by decide +kernel

theorem witness_AssemblerRefusesExactlyWideOperands :
    assemble (.noteOn 255 127 127) = some [.cmd 0x10FF7F7F] ∧ ¬(Instr.noteOn 0 128 0).WellFormed := by
  decide +kernel

end Sys2Proof.Machine.Tests
end

