-- ==== Sys2Proof/Proofs/Scope.lean ====
section
/-! PROOFS. The scope's two statements: a step applies the next event, and the records of inactive voices
cannot be observed. -/

namespace Sys2Proof.Machine

/-! ### A step applies the next event (R11, R80) -/

theorem execCmd_of_ok {w : Word} {i : Instr} (h : decode w = .ok i) (s : State) :
    execCmd w s = exec i s := by simp [execCmd, h]

theorem execCmd_of_error {w : Word} {r : IgnoreReason} (h : decode w = .error r) (s : State) :
    execCmd w s = .next s := by simp [execCmd, h]

/-- Settles O6: `step_cons` names the event applied, and the decoder's answer picks what a word runs. -/
theorem stepAppliesTheNextEvent : Obligations.StepAppliesTheNextEvent := by
  intro s rest
  refine ⟨fun w i h hd => ?_, fun w r h hd => ?_, fun h => ?_, fun h => ?_⟩
  · exact (step_cons h).trans (execCmd_of_ok hd _)
  · exact (step_cons h).trans (execCmd_of_error hd _)
  · exact step_cons h
  · exact step_cons h

/-! ### Alike states and outcomes (R14, 93 I18) -/

theorem setVoices_alike (s : State) {vs ws : List Voice} (h : List.Forall₂ Voice.Alike vs ws) :
    (s.setVoices vs).Alike (s.setVoices ws) :=
  ⟨rfl, rfl, rfl, rfl, rfl, rfl, rfl, h⟩

theorem State.Alike.refl (s : State) : s.Alike s :=
  setVoices_alike s (List.forall₂_same.mpr fun _ _ => .inl rfl)

/-- A state alike to `s` is `s` with an alike pool, so that all its other fields are those of `s` by
computation. -/
theorem State.Alike.exists_setVoices {s t : State} (h : s.Alike t) :
    ∃ ws, t = s.setVoices ws ∧ List.Forall₂ Voice.Alike s.voices ws := by
  obtain ⟨hcfg, hmap, hvol, hmaxn, hframe, hinput, houtput, hvoices⟩ := h
  refine ⟨t.voices, ?_, hvoices⟩
  simp only [State.setVoices, hcfg, hmap, hvol, hmaxn, hframe, hinput, houtput]

/-- Both outcomes are next states, and these are alike. -/
def OutcomesAlike (o p : Outcome) : Prop := ∃ s t : State, o = .next s ∧ p = .next t ∧ s.Alike t

theorem outcomesAlike_next {s t : State} (h : s.Alike t) : OutcomesAlike (.next s) (.next t) :=
  ⟨s, t, rfl, rfl, h⟩

/-- Answers that write alike pools to one state are alike. An update of another field is read as
such an answer too: it commutes with the write of the pool by computation. -/
theorem outcomesAlike_setVoices (s : State) {vs ws : List Voice} (h : List.Forall₂ Voice.Alike vs ws) :
    OutcomesAlike (.next (s.setVoices vs)) (.next (s.setVoices ws)) :=
  outcomesAlike_next (setVoices_alike s h)

theorem silence_alike (v w : Voice) : v.silence.Alike w.silence := .inr ⟨rfl, rfl⟩

/-- A write to the voices sounding on a channel writes to no inactive voice, so it keeps voices alike. -/
theorem onChannel_alike (ch : Nat) (f : Voice → Voice) {v w : Voice} (h : v.Alike w) :
    Voice.Alike (if v.soundsOn ch then f v else v) (if w.soundsOn ch then f w else w) := by
  rcases h with rfl | ⟨hv, hw⟩
  · exact .inl rfl
  · simpa [Voice.soundsOn, hv, hw] using .inr ⟨hv, hw⟩

/-! ### Every event takes alike states to alike states -/

section
variable {s : State} {ws : List Voice} (h : List.Forall₂ Voice.Alike s.voices ws)
include h

/-- A command reads the pool through the allocator, the NOTE_OFF scan and the active voices only. -/
theorem exec_alike (i : Instr) : OutcomesAlike (exec i s) (exec i (s.setVoices ws)) := by
  cases hr : rangeReason s.cfg i with
  | some r =>
    rw [exec_of_rangeReason hr, exec_of_rangeReason (s := s.setVoices ws) hr]
    exact outcomesAlike_setVoices s h
  | none =>
    cases i with
    | nop => exact outcomesAlike_setVoices s h
    | noteOn ch note vel =>
      have hch : ch < s.cfg.nv := by simpa [rangeReason] using hr
      rw [exec_noteOn hch, exec_noteOn (s := s.setVoices ws) hch, setVoices_voices,
        ← alike_allocate h]
      exact outcomesAlike_setVoices s (alike_set h _ _)
    | noteOff ch note =>
      have hch : ch < s.cfg.nv := by simpa [rangeReason] using hr
      rw [exec_noteOff hch, exec_noteOff (s := s.setVoices ws) hch, setVoices_instrumentOf]
      split
      · exact outcomesAlike_setVoices s h
      · exact outcomesAlike_setVoices s (alike_releaseFirst ch note h)
    | allNotesOff =>
      exact outcomesAlike_setVoices s (alike_map h fun v w _ => silence_alike v w)
    | setInstrument ch idx =>
      obtain ⟨hch, hidx⟩ : ch < s.cfg.nv ∧ idx < s.cfg.ni := by
        simpa [rangeReason, ite_eq_iff] using hr
      rw [exec_setInstrument hch hidx, exec_setInstrument (s := s.setVoices ws) hch hidx]
      exact outcomesAlike_setVoices (s.setMap (s.map.set ch (BitVec.ofNat 8 idx))) h
    | setVolume pct => exact outcomesAlike_setVoices (s.setVol (volumeOf pct)) h
    | alterVol ch vel =>
      have hch : ch < s.cfg.nv := by simpa [rangeReason] using hr
      rw [exec_alterVol hch, exec_alterVol (s := s.setVoices ws) hch]
      exact outcomesAlike_setVoices s (alike_map h fun v w => onChannel_alike ch _)
    | alterPitch ch bend =>
      have hch : ch < s.cfg.nv := by simpa [rangeReason] using hr
      rw [exec_alterPitch hch, exec_alterPitch (s := s.setVoices ws) hch]
      exact outcomesAlike_setVoices s (alike_map h fun v w => onChannel_alike ch _)
    | setMaxNotes n => exact outcomesAlike_setVoices (s.setMaxn (ceilingOf n s.cfg.nv)) h

/-- A Tick sums the same over alike pools, so both states return the same frame. -/
theorem tickState_alike : (tickState s).Alike (tickState (s.setVoices ws)) := by
  obtain ⟨hpool, hsum⟩ := alike_tickScan (s := s) (t := s.setVoices ws) rfl rfl rfl h 0
  simp only [tickState, setVoices_voices, hsum]
  exact setVoices_alike (s.emitFrame _) hpool

theorem applyEvent_alike (e : Event) :
    OutcomesAlike (applyEvent e s) (applyEvent e (s.setVoices ws)) := by
  cases e with
  | cmd w =>
    simp only [applyEvent]
    cases hd : decode w with
    | ok i =>
      rw [execCmd_of_ok hd, execCmd_of_ok hd]
      exact exec_alike h i
    | error r =>
      rw [execCmd_of_error hd, execCmd_of_error hd]
      exact outcomesAlike_setVoices s h
  | tick => exact outcomesAlike_next (tickState_alike h)
  | rst => exact outcomesAlike_next (.refl s.applyReset)

end

theorem step_alike {s t : State} (h : s.Alike t) : OutcomesAlike (step s) (step t) := by
  obtain ⟨ws, rfl, hws⟩ := h.exists_setVoices
  cases hin : s.input with
  | nil =>
    rw [step_nil hin, step_nil (s := s.setVoices ws) hin]
    exact outcomesAlike_next h
  | cons e rest =>
    rw [step_cons hin, step_cons (s := s.setVoices ws) hin]
    exact applyEvent_alike (s := s.setInput rest) hws e

/-- Settles O54: `step_alike`, with the first step's answer the one given. -/
theorem inactiveVoiceRecordsAreUnobservable : Obligations.InactiveVoiceRecordsAreUnobservable := by
  intro s t s' h hs
  obtain ⟨u, t', hu, ht, hut⟩ := step_alike h
  rw [hs] at hu
  cases hu
  exact ⟨t', ht, hut⟩

end Sys2Proof.Machine
end

