-- ==== Sys2Proof/Proofs/State.lean ====
section
/-! PROOFS. The state's statements: the invariant of R24, R20, R27 and R152 at reset, over every step and in
every reachable state; what moves FRAME and MAXN (R31, R33); and that MAXN is advisory (R30, R227). -/

namespace Sys2Proof.Machine

/-! ### What a command, a Tick and a step leave alone -/

/-- A command writes no parameter and not FRAME, and returns no frame (60_exceptions.md R197). -/
theorem exec_frame {i : Instr} {s t : State} (h : exec i s = .next t) :
    t.cfg = s.cfg ∧ t.frame = s.frame ∧ t.output = s.output := by
  obtain rfl | ⟨ch, note, vel, -, -, rfl⟩ | ⟨ch, note, -, rfl⟩ | ⟨-, rfl⟩ | ⟨ch, idx, -, -, -, rfl⟩ |
    ⟨pct, -, rfl⟩ | ⟨ch, vel, -, rfl⟩ | ⟨ch, bend, -, rfl⟩ | ⟨n, -, rfl⟩ := exec_cases h <;> exact ⟨rfl, rfl, rfl⟩

/-- MAXN has one writer among the commands (10_state.md R30). -/
theorem exec_maxn {i : Instr} {s t : State} (h : exec i s = .next t) :
    t.maxn = s.maxn ∨ ∃ n, i = .setMaxNotes n := by
  obtain rfl | ⟨ch, note, vel, -, -, rfl⟩ | ⟨ch, note, -, rfl⟩ | ⟨-, rfl⟩ | ⟨ch, idx, -, -, -, rfl⟩ |
    ⟨pct, -, rfl⟩ | ⟨ch, vel, -, rfl⟩ | ⟨ch, bend, -, rfl⟩ | ⟨n, hi, -⟩ := exec_cases h
  on_goal 9 => exact .inr ⟨n, hi⟩
  all_goals exact .inl rfl

@[simp] theorem tickState_cfg (s : State) : (tickState s).cfg = s.cfg := rfl
@[simp] theorem tickState_maxn (s : State) : (tickState s).maxn = s.maxn := rfl
@[simp] theorem tickState_output (s : State) :
    (tickState s).output = s.output ++ [(tickState s).frame] := rfl

theorem step_cfg {s t : State} (h : step s = .next t) : t.cfg = s.cfg := by
  obtain ⟨-, rfl⟩ | ⟨w, rest, r, -, -, rfl⟩ | ⟨w, rest, i, -, -, hex⟩ | ⟨rest, -, rfl⟩ | ⟨rest, -, rfl⟩ :=
    step_cases h
  on_goal 3 => exact (exec_frame hex).1
  all_goals rfl

/-! ### R24 of one voice -/

section
variable {cfg : Config}

theorem inert_inv (h : 1 ≤ cfg.nv) : Voice.inert.Inv cfg :=
  ⟨Nat.zero_le _, h, by decide⟩

theorem silence_inv (h : 1 ≤ cfg.nv) (v : Voice) : v.silence.Inv cfg :=
  ⟨Nat.zero_le _, h, by simp⟩

/-- A channel below `NV` fits the voice's 8-bit field, so it is stored as it is. -/
theorem claimedVoice_inv (hnv : cfg.nv ≤ 256) {ch : Nat} (hch : ch < cfg.nv) (ins : Instrument)
    (note vel : Nat) : (claimedVoice cfg ins ch note vel).Inv cfg := by
  refine ⟨Nat.zero_le _, ?_, by simp [claimedVoice]⟩
  rw [claimedVoice, BitVec.toNat_ofNat]
  omega

variable {v : Voice}

/-- Only an active voice may be sent to Release, where it is not Idle. -/
theorem toRelease_inv (hactive : v.active = true) (h : v.Inv cfg) : v.toRelease.Inv cfg := by
  obtain ⟨hlevel, hchannel, -⟩ := h
  exact ⟨hlevel, hchannel, by simp [hactive]⟩

theorem withGain_inv (h : v.Inv cfg) (ins : Instrument) (vel : Nat) : (v.withGain ins vel).Inv cfg := h

theorem withBend_inv (h : v.Inv cfg) (ins : Instrument) (bend : Nat) :
    (v.withBend cfg ins bend).Inv cfg := h

end

/-! ### A frame a Tick can produce (R151, R152) -/

theorem frameInv_zero : FrameInv 0 := by decide

theorem frameInv_quantize (acc : Int) : FrameInv (frameOf (quantize acc)) := by
  unfold FrameInv
  rw [frameOf_low, quantize_toInt]
  exact ⟨rfl, (outputOf_range acc).1⟩

/-! ### The invariant and each write -/

theorem resetOf_inv {c : Config} (h : c.Legal) : (State.resetOf c).Inv := by
  have ⟨hnv, hnv', _, _, _, _, hvol, hmap⟩ := h
  have hmaxn : (BitVec.ofNat 9 c.nv).toNat = c.nv := by rw [BitVec.toNat_ofNat]; omega
  refine ⟨h, by simp, by simp, ?_, hvol, ?_, ?_, ?_, frameInv_zero⟩
  · intro m hm
    rw [List.eq_of_mem_replicate hm]
    exact hmap
  · rw [resetOf_maxn, hmaxn]; exact hnv
  · rw [resetOf_maxn, hmaxn]; exact le_rfl
  · intro v hv
    rw [List.eq_of_mem_replicate hv]
    exact inert_inv hnv

section
variable {s : State} (h : s.Inv)
include h

theorem State.Inv.legal : s.cfg.Legal := by
  obtain ⟨hlegal, -⟩ := h
  exact hlegal

theorem State.Inv.voices : ∀ v ∈ s.voices, v.Inv s.cfg := by
  obtain ⟨-, -, -, -, -, -, -, hvoices, -⟩ := h
  exact hvoices

theorem State.Inv.map_lt : ∀ m ∈ s.map, m.toNat < s.cfg.ni := by
  obtain ⟨-, -, -, hmap, -⟩ := h
  exact hmap

theorem inv_setInput (es : List Event) : (s.setInput es).Inv := h

theorem applyReset_inv : s.applyReset.Inv := resetOf_inv h.legal

theorem inv_mapVoices {f : Voice → Voice} (hf : ∀ v, v.Inv s.cfg → (f v).Inv s.cfg) :
    (s.setVoices (s.voices.map f)).Inv :=
  inv_setVoices h (by simp) (List.forall_mem_map.mpr fun v hv => hf v (h.voices v hv))

theorem inv_emitFrame {f : Word} (hf : FrameInv f) : (s.emitFrame f).Inv := by
  obtain ⟨hlegal, hlen, hmaplen, hmap, hvol, hlo, hhi, hvoices, -⟩ := h
  exact ⟨hlegal, hlen, hmaplen, hmap, hvol, hlo, hhi, hvoices, hf⟩

theorem inv_setMap {m : List Byte} (hm : m.length = s.map.length) (hidx : ∀ b ∈ m, b.toNat < s.cfg.ni) :
    (s.setMap m).Inv := by
  obtain ⟨hlegal, hlen, hmaplen, -, hvol, hlo, hhi, hvoices, hframe⟩ := h
  exact ⟨hlegal, hlen, hm.trans hmaplen, hidx, hvol, hlo, hhi, hvoices, hframe⟩

theorem inv_setVol {x : Half} (hx : x.toNat ≤ 32768) : (s.setVol x).Inv := by
  obtain ⟨hlegal, hlen, hmaplen, hmap, -, hlo, hhi, hvoices, hframe⟩ := h
  exact ⟨hlegal, hlen, hmaplen, hmap, hx, hlo, hhi, hvoices, hframe⟩

theorem inv_setMaxn {n : Count} (hlo : 1 ≤ n.toNat) (hhi : n.toNat ≤ s.cfg.nv) : (s.setMaxn n).Inv := by
  obtain ⟨hlegal, hlen, hmaplen, hmap, hvol, -, -, hvoices, hframe⟩ := h
  exact ⟨hlegal, hlen, hmaplen, hmap, hvol, hlo, hhi, hvoices, hframe⟩

/-! ### The invariant and each command's write -/

theorem inv_claim {ch : Nat} (hch : ch < s.cfg.nv) (ins : Instrument) (note vel : Nat) :
    (s.setVoices (s.voices.set (allocate s.voices) (claimedVoice s.cfg ins ch note vel))).Inv := by
  obtain ⟨-, hnv, -⟩ := h.legal
  refine inv_setVoices h (by simp) fun v hv => ?_
  rcases List.mem_or_eq_of_mem_set hv with hv | rfl
  · exact h.voices v hv
  · exact claimedVoice_inv hnv hch ins note vel

theorem inv_releaseFirst (ch note : Nat) : (s.setVoices (releaseFirst ch note s.voices)).Inv := by
  refine inv_setVoices h (by simp) fun v hv => ?_
  rcases mem_releaseFirst hv with hv | ⟨w, hw, ⟨⟨hactive, -⟩, -⟩, rfl⟩
  · exact h.voices v hv
  · exact toRelease_inv hactive (h.voices w hw)

/-- An instrument index below `NI` fits the map's 8-bit entry, so it is stored as it is. -/
theorem inv_mapEntry {idx : Nat} (hidx : idx < s.cfg.ni) (ch : Nat) :
    (s.setMap (s.map.set ch (BitVec.ofNat 8 idx))).Inv := by
  obtain ⟨-, -, -, hni, -⟩ := h.legal
  refine inv_setMap h (by simp) fun b hb => ?_
  rcases List.mem_or_eq_of_mem_set hb with hb | rfl
  · exact h.map_lt b hb
  · rw [BitVec.toNat_ofNat]; omega

theorem inv_setVolume (pct : Nat) : (s.setVol (volumeOf pct)).Inv :=
  inv_setVol h (by rw [volumeOf_toNat]; omega)

theorem inv_setMaxNotes (n : Nat) : (s.setMaxn (ceilingOf n s.cfg.nv)).Inv := by
  obtain ⟨hnv, hnv', -⟩ := h.legal
  apply inv_setMaxn h <;> rw [ceilingOf_toNat n hnv'] <;> omega

/-- A write to the voices sounding on a channel needs to keep R24 of those only. -/
theorem inv_onChannel (ch : Nat) {f : Voice → Voice} (hf : ∀ v, v.Inv s.cfg → (f v).Inv s.cfg) :
    (s.setVoices (s.voices.map fun v => if v.soundsOn ch then f v else v)).Inv := by
  refine inv_mapVoices h fun v hv => ?_
  split
  · exact hf v hv
  · exact hv

/-! ### The invariant over a command, a Tick and a step -/

theorem exec_inv {i : Instr} {t : State} (hex : exec i s = .next t) : t.Inv := by
  obtain rfl | ⟨ch, note, vel, hch, -, rfl⟩ | ⟨ch, note, -, rfl⟩ | ⟨-, rfl⟩ |
    ⟨ch, idx, -, hidx, -, rfl⟩ | ⟨pct, -, rfl⟩ | ⟨ch, vel, -, rfl⟩ | ⟨ch, bend, -, rfl⟩ | ⟨n, -, rfl⟩ :=
    exec_cases hex
  · exact h
  · exact inv_claim h hch _ note vel
  · exact inv_releaseFirst h ch note
  · obtain ⟨hnv, -⟩ := h.legal
    exact inv_mapVoices h fun v _ => silence_inv hnv v
  · exact inv_mapEntry h hidx ch
  · exact inv_setVolume h pct
  · exact inv_onChannel h ch fun v hv => withGain_inv hv _ vel
  · exact inv_onChannel h ch fun v hv => withBend_inv hv _ bend
  · exact inv_setMaxNotes h n

theorem tickState_inv : (tickState s).Inv := by
  refine inv_emitFrame ?_ (frameInv_quantize _)
  rw [tickScan_fst]
  exact inv_mapVoices h fun v hv => voiceTick_inv s.cfg _ s.vol v hv

theorem step_inv {t : State} (hstep : step s = .next t) : t.Inv := by
  obtain ⟨-, rfl⟩ | ⟨w, rest, r, -, -, rfl⟩ | ⟨w, rest, i, -, -, hex⟩ | ⟨rest, -, rfl⟩ | ⟨rest, -, rfl⟩ :=
    step_cases hstep
  · exact h
  · exact inv_setInput h rest
  · exact exec_inv (inv_setInput h rest) hex
  · exact tickState_inv (inv_setInput h rest)
  · exact applyReset_inv (inv_setInput h rest)

end

/-- Settles O3: `step_inv`, by the five things a step can be and the nine a command can do. -/
theorem everyStepKeepsTheInvariant : Obligations.EveryStepKeepsTheInvariant :=
  fun _ _ h hstep => step_inv h hstep

/-- Settles O2: `resetOf_inv`, and a check of the example configuration. -/
theorem resetStateKeepsTheInvariant : Obligations.ResetStateKeepsTheInvariant := by
  have hexample : exampleConfig.Legal := by decide
  exact ⟨fun _ h => resetOf_inv h, hexample, resetOf_inv hexample⟩

/-! ### Reachable states (R24) -/

theorem Reachable.cfg_eq {c : Config} {s : State} (h : Reachable c s) : s.cfg = c := by
  induction h with
  | reset => rfl
  | deliver es _ ih => exact ih
  | step _ hstep ih => exact (step_cfg hstep).trans ih

theorem Reachable.inv {c : Config} (hc : c.Legal) {s : State} (h : Reachable c s) : s.Inv := by
  induction h with
  | reset => exact resetOf_inv hc
  | deliver es _ ih => exact inv_setInput ih _
  | step _ hstep ih => exact step_inv ih hstep

/-- Settles O4: the invariant of every reachable state holds R24; the note fits its seven bits by its
type. -/
theorem reachableStatesKeepTheVoiceRanges : Obligations.ReachableStatesKeepTheVoiceRanges := by
  intro c s hc hr v hv
  obtain ⟨hlevel, hchannel, hactive⟩ := (hr.inv hc).voices v hv
  exact ⟨hlevel, hr.cfg_eq ▸ hchannel, Nat.le_of_lt_succ v.note.isLt, hactive⟩

/-! ### What moves FRAME and MAXN (R31, R33) -/

/-- Settles O50: of the five things a step can be, a command leaves FRAME and the frames returned alone
by `exec_frame`, and a reset leaves the frames returned alone. -/
theorem onlyTickAndResetChangeTheFrame : Obligations.OnlyTickAndResetChangeTheFrame := by
  intro s t h
  obtain ⟨hin, rfl⟩ | ⟨w, rest, r, hin, -, rfl⟩ | ⟨w, rest, i, hin, -, hex⟩ | ⟨rest, hin, rfl⟩ |
    ⟨rest, hin, rfl⟩ := step_cases h
  · simp [hin]
  · simp [hin]
  · obtain ⟨-, hframe, houtput⟩ := exec_frame hex
    simp [hin, hframe, houtput]
  · simp [hin]
  · simp [hin]

/-- Settles O51: of the five things a step can be, a command moves MAXN only as SET_MAX_NOTES, by
`exec_maxn`. -/
theorem onlySetMaxNotesAndResetMoveTheCeilingPort :
    Obligations.OnlySetMaxNotesAndResetMoveTheCeilingPort := by
  intro s t h
  refine ⟨rfl, fun hne => ?_⟩
  rw [maxNotesOut_eq, maxNotesOut_eq] at hne
  obtain ⟨-, rfl⟩ | ⟨w, rest, r, -, -, rfl⟩ | ⟨w, rest, i, hin, hd, hex⟩ | ⟨rest, -, rfl⟩ |
    ⟨rest, hin, -⟩ := step_cases h
  · exact absurd rfl hne
  · exact absurd rfl hne
  · rcases exec_maxn hex with hmaxn | ⟨n, rfl⟩
    · exact absurd hmaxn hne
    · exact .inr ⟨w, n, by simp [hin], hd⟩
  · exact absurd rfl hne
  · exact .inl (by simp [hin])

/-! ### MAXN is advisory (R30, R227) -/

/-- An outcome with MAXN replaced in its next state. -/
def withCeiling (m : Count) : Outcome → Outcome
  | .next s => .next (s.setMaxn m)
  | .fault r => .fault r
  | .refused r => .refused r

@[simp] theorem withCeiling_next (m : Count) (s : State) :
    withCeiling m (.next s) = .next (s.setMaxn m) := rfl

/-- A command that does not write MAXN does the same under another MAXN. -/
theorem exec_setMaxn {i : Instr} (hi : ∀ n, i ≠ .setMaxNotes n) (s : State) (m : Count) :
    exec i (s.setMaxn m) = withCeiling m (exec i s) := by
  cases hr : rangeReason s.cfg i with
  | some r => rw [exec_of_rangeReason hr, exec_of_rangeReason (s := s.setMaxn m) hr, withCeiling_next]
  | none =>
    cases i with
    | nop | allNotesOff | setVolume => rfl
    | setMaxNotes n => exact absurd rfl (hi n)
    | noteOn ch note vel =>
      have hch : ch < s.cfg.nv := by simpa [rangeReason] using hr
      rw [exec_noteOn hch, exec_noteOn (s := s.setMaxn m) hch]
      rfl
    | noteOff ch note =>
      have hch : ch < s.cfg.nv := by simpa [rangeReason] using hr
      rw [exec_noteOff hch, exec_noteOff (s := s.setMaxn m) hch, setMaxn_instrumentOf]
      split <;> rfl
    | setInstrument ch idx =>
      obtain ⟨hch, hidx⟩ : ch < s.cfg.nv ∧ idx < s.cfg.ni := by
        simpa [rangeReason, ite_eq_iff] using hr
      rw [exec_setInstrument hch hidx, exec_setInstrument (s := s.setMaxn m) hch hidx]
      rfl
    | alterVol ch vel =>
      have hch : ch < s.cfg.nv := by simpa [rangeReason] using hr
      rw [exec_alterVol hch, exec_alterVol (s := s.setMaxn m) hch]
      rfl
    | alterPitch ch bend =>
      have hch : ch < s.cfg.nv := by simpa [rangeReason] using hr
      rw [exec_alterPitch hch, exec_alterPitch (s := s.setMaxn m) hch]
      rfl

theorem execCmd_setMaxn (w : Word) (s : State) (m : Count) :
    execCmd w (s.setMaxn m) = withCeiling m (execCmd w s) ∨
      execCmd w (s.setMaxn m) = execCmd w s := by
  cases hd : decode w with
  | error r => exact .inl (by rw [execCmd_of_error hd, execCmd_of_error hd, withCeiling_next])
  | ok i =>
    rw [execCmd_of_ok hd, execCmd_of_ok hd]
    by_cases hi : ∃ n, i = .setMaxNotes n
    · obtain ⟨n, rfl⟩ := hi
      exact .inr rfl
    · exact .inl (exec_setMaxn (not_exists.mp hi) s m)

/-- A Tick's scan reads no MAXN. -/
theorem tickState_setMaxn (s : State) (m : Count) :
    tickState (s.setMaxn m) = (tickState s).setMaxn m := by
  have hscan := tickScan_congr (s := s.setMaxn m) (t := s) rfl rfl rfl s.voices 0
  simp only [tickState, setMaxn_voices, hscan]
  rfl

theorem applyEvent_setMaxn (e : Event) (s : State) (m : Count) :
    applyEvent e (s.setMaxn m) = withCeiling m (applyEvent e s) ∨
      applyEvent e (s.setMaxn m) = applyEvent e s := by
  cases e with
  | cmd w => exact execCmd_setMaxn w s m
  | tick => exact .inl (congrArg Host.Outcome.next (tickState_setMaxn s m))
  | rst => exact .inr rfl

theorem step_setMaxn (s : State) (m : Count) :
    step (s.setMaxn m) = withCeiling m (step s) ∨ step (s.setMaxn m) = step s := by
  cases hin : s.input with
  | nil => exact .inl (by rw [step_nil hin, step_nil (s := s.setMaxn m) hin, withCeiling_next])
  | cons e rest =>
    rw [step_cons hin, step_cons (s := s.setMaxn m) hin]
    exact applyEvent_setMaxn e (s.setInput rest) m

/-- Settles O53: `step_setMaxn`, with the first step's answer the one given. -/
theorem ceilingIsAdvisory : Obligations.CeilingIsAdvisory := by
  intro s t m h
  have hm := step_setMaxn s m
  rw [h] at hm
  exact hm

end Sys2Proof.Machine
end

section
/-! PROOFS. The memory's statements: the entries of FREQ and SINE over the reals (R53, R51), the effective
values of an instrument and the rates a builder gives it (R57, R56), the ROM image (R55), the order of a
command and a tick at one instant (R61), and that no step writes a ROM (R66). -/

namespace Sys2Proof.Machine

/-! ### FREQ (R53) -/

/-- The integer bracket `freqBracket` computes with puts `f` at the rounding of `y`. -/
theorem floor_add_half_of_pow_bracket {f n m : ℕ} {y : ℝ} (hn : n ≠ 0) (hy : 0 ≤ y) (hf : 1 ≤ f)
    (hpow : (2 * y) ^ n = 2 ^ m) (hlo : (2 * f - 1) ^ n ≤ 2 ^ m) (hhi : 2 ^ m < (2 * f + 1) ^ n) :
    ⌊y + 1 / 2⌋ = (f : ℤ) := by
  have hy2 : (0 : ℝ) ≤ 2 * y := by positivity
  have hlo' : ((2 * f - 1 : ℕ) : ℝ) ≤ 2 * y := by
    rw [← pow_le_pow_iff_left₀ (Nat.cast_nonneg _) hy2 hn, hpow]
    exact_mod_cast hlo
  have hhi' : 2 * y < ((2 * f + 1 : ℕ) : ℝ) := by
    rw [← pow_lt_pow_iff_left₀ hy2 (Nat.cast_nonneg _) hn, hpow]
    exact_mod_cast hhi
  rw [Nat.cast_sub (by omega)] at hlo'
  push_cast at hlo' hhi'
  rw [Int.floor_eq_iff]
  constructor <;> push_cast <;> linarith

/-- Twice the exponential of R53, to the power that clears its root. -/
theorem two_mul_freq_pow (k : ℕ) :
    (2 * ((2 : ℝ) ^ (31 : ℕ) * (2 : ℝ) ^ ((k : ℝ) / 768))) ^ 768 = 2 ^ (32 * 768 + k) := by
  have hroot : ((2 : ℝ) ^ ((k : ℝ) / 768)) ^ 768 = 2 ^ k := by
    rw [← Real.rpow_mul_natCast zero_le_two, Nat.cast_ofNat, div_mul_cancel₀ _ (by norm_num),
      Real.rpow_natCast]
  rw [← mul_assoc, ← pow_succ', mul_pow, hroot, ← pow_mul, ← pow_add]

/-- Settles O30: `freqBracket_all` brackets every entry, and the bracket rounds. -/
theorem freqRomHoldsTheRoundedExponential : Obligations.FreqRomHoldsTheRoundedExponential := by
  intro k hk
  have hbracket := freqBracket_all k hk
  simp only [freqBracket, Bool.and_eq_true, decide_eq_true_eq] at hbracket
  obtain ⟨⟨⟨hlo, hhi⟩, hmin⟩, hmax⟩ := hbracket
  refine ⟨Eq.symm ?_, hmin, hmax⟩
  exact floor_add_half_of_pow_bracket (by decide) (by positivity) (by omega) (two_mul_freq_pow k) hlo hhi

/-! ### SINE (R51) -/

/-- An integer nearer than a half to a real is what rounding half away from zero gives. -/
theorem roundHalfAway_eq_of_near {x : ℝ} {n : ℤ} (h : |x - n| < 1 / 2) :
    (SignType.sign x : ℤ) * ⌊|x| + 1 / 2⌋ = n := by
  obtain ⟨hlo, hhi⟩ := abs_lt.mp h
  rcases lt_trichotomy x 0 with hx | rfl | hx
  · have hfloor : ⌊|x| + 1 / 2⌋ = -n := by
      rw [abs_of_neg hx, Int.floor_eq_iff]
      constructor <;> push_cast <;> linarith
    rw [hfloor, sign_neg hx]
    simp
  · have hfloor : ⌊|(0 : ℝ)| + 1 / 2⌋ = n := by
      rw [abs_zero, Int.floor_eq_iff]
      constructor <;> linarith
    have hzero : n = 0 := by rw [← hfloor]; norm_num
    simp [hzero]
  · have hfloor : ⌊|x| + 1 / 2⌋ = n := by
      rw [abs_of_pos hx, Int.floor_eq_iff]
      constructor <;> linarith
    rw [hfloor, sign_pos hx]
    simp

/-- The second quarter mirrors the first. -/
theorem sineFirstHalf_near {j : ℕ} (hj : j ≤ 1024) :
    |32767 * Real.sin (j * (Real.pi / 1024)) - sineFirstHalf j| < 1 / 2 := by
  unfold sineFirstHalf
  split
  · exact sineFirstQuarter_near j ‹_›
  · have hmirror : (j : ℝ) * (Real.pi / 1024) = Real.pi - ((1024 - j : ℕ) : ℝ) * (Real.pi / 1024) := by
      rw [Nat.cast_sub hj]; push_cast; ring
    rw [hmirror, Real.sin_pi_sub]
    exact sineFirstQuarter_near (1024 - j) (by omega)

/-- The second half is the first with the other sign. -/
theorem sineRom_near {i : ℕ} (hi : i < 2048) :
    |32767 * Real.sin (i * (Real.pi / 1024)) - sineRom i| < 1 / 2 := by
  unfold sineRom
  split
  · simpa using sineFirstHalf_near (j := i) (by omega)
  · have hturn : (i : ℝ) * (Real.pi / 1024) = ((i - 1024 : ℕ) : ℝ) * (Real.pi / 1024) + Real.pi := by
      rw [Nat.cast_sub (by omega)]; push_cast; ring
    have hnear := sineFirstHalf_near (j := i - 1024) (by omega)
    rw [hturn, Real.sin_add_pi, ← abs_neg]
    convert hnear using 2
    push_cast
    ring

/-- Settles O31: `sineRom_near`, with R51's angle as a multiple of `pi / 1024`. -/
theorem sineRomHoldsTheRoundedSine : Obligations.SineRomHoldsTheRoundedSine := by
  rintro i hi x rfl
  have hangle : 2 * Real.pi * i / 2048 = i * (Real.pi / 1024) := by ring
  rw [hangle]
  exact (roundHalfAway_eq_of_near (sineRom_near hi)).symm

/-! ### A command and a tick at one instant (R61) -/

/-- A command word neither reads nor writes the events still to come. -/
theorem execCmd_setInput {w : Word} {s t : State} (h : execCmd w s = .next t) (es : List Event) :
    execCmd w (s.setInput es) = .next (t.setInput es) := by
  cases hd : decode w with
  | ok i =>
    rw [execCmd_of_ok hd] at h ⊢
    exact exec_setInput h es
  | error r =>
    rw [execCmd_of_error hd] at h ⊢
    cases h
    rfl

theorem setInput_self (s : State) : s.setInput s.input = s := rfl

theorem execCmd_input {w : Word} {s t : State} (h : execCmd w s = .next t) : t.input = s.input := by
  have hself := execCmd_setInput h s.input
  rw [setInput_self, h, Host.Outcome.next.injEq] at hself
  rw [hself, setInput_input]

/-- Two steps of the machine are two steps of the model. -/
theorem run_two {s t u : State} (hst : step s = .next t) (htu : step t = .next u) :
    Sys2Proof.core.run 2 s = .next u := by
  simp [Host.Core.run, core, hst, htu]

/-- Settles O8: the word runs with the strobe still to come, and the Tick runs in the state it left. -/
theorem commandAtTheSameInstantGoesFirst : Obligations.CommandAtTheSameInstantGoesFirst := by
  intro s t u w hin hcmd htick
  have hdelivered : (s.deliver (sameInstant w)).input = [.cmd w, .tick] := by
    rw [deliver_input, hin]; rfl
  have hfirst : step (s.deliver (sameInstant w)) = .next (t.setInput [.tick]) :=
    (step_cons hdelivered).trans (execCmd_setInput hcmd [.tick])
  have hkept : (t.setInput [.tick]).setInput [] = t := by
    rw [← setInput_self t, execCmd_input hcmd, hin]; rfl
  have hsecond : step (t.setInput [.tick]) = .next u := by
    rw [step_cons (setInput_input ..), hkept]
    exact htick
  exact run_two hfirst hsecond

/-- Settles O49: of the five things a step can be, none writes the parameters. -/
theorem noStepWritesTheRoms : Obligations.NoStepWritesTheRoms := fun _ _ => step_cfg

/-! ### The builder's rates and the effective values (R56, R57) -/

theorem effRate_of_range {r : Word} (hlo : 1 ≤ r.toNat) (hhi : r.toNat ≤ levelOne) :
    effRate r = r.toNat := if_neg (by omega)

theorem clampInt_range {lo hi : Int} (x : Int) (h : lo ≤ hi) :
    lo ≤ clampInt x lo hi ∧ clampInt x lo hi ≤ hi := by
  unfold clampInt
  omega

/-- The clamp of R56 keeps a rate inside the word and inside what `effRate` leaves alone. -/
theorem rateOf_range {t : Rat} (ht : 0 < t) (fs : Nat) :
    1 ≤ (rateOf t fs).toNat ∧ (rateOf t fs).toNat ≤ levelOne := by
  obtain ⟨hlo, hhi⟩ := clampInt_range (hi := levelOne) (roundHalfUp (levelOne / (t * fs)))
    (show (1 : Int) ≤ levelOne by decide)
  rw [rateOf, if_neg (not_le.mpr ht), BitVec.toNat_ofInt]
  generalize clampInt _ 1 levelOne = rate at hlo hhi ⊢
  unfold levelOne at hhi ⊢
  omega

/-- Settles O56: R56's clamp gives a rate in the range `effRate` keeps, and a time of 0 or less the rate
0 it replaces. -/
theorem builtRatesAreEffective : Obligations.BuiltRatesAreEffective := by
  intro t fs _
  refine ⟨fun ht => ?_, fun ht => ?_⟩
  · obtain ⟨hlo, hhi⟩ := rateOf_range ht fs
    exact ⟨effRate_of_range hlo hhi, hlo⟩
  · rw [rateOf, if_pos ht]
    rfl

/-- Settles O33: the two replaced cases as R57 names them, and the bounds of `effRate`. -/
theorem effectiveValuesAreInRange : Obligations.EffectiveValuesAreInRange := by
  intro r
  refine ⟨?_, effRate_pos r, effRate_le r, rfl⟩
  have hzero : r = 0 ↔ r.toNat = 0 := BitVec.toNat_eq
  simp only [effRate, hzero, levelOne, Nat.reducePow]

/-! ### The ROM image (R55) -/

/-- Settles O55: the only entry fields that share a word are the halves `wordOfHalves` gives back. -/
theorem romImageHoldsTheEntry : Obligations.RomImageHoldsTheEntry := by
  intro ins
  refine ⟨rfl, ?_⟩
  simp only [imageOf, ofImage, wordOfHalves_low, wordOfHalves_high]

end Sys2Proof.Machine
end

section
/-! PROOFS. The encoding's statements: decoding and encoding undo each other (R70 to R73), a word is a
command exactly when it matches the command's row (R73), the words of no row are ignored (R74), and what
the assembler emits (R77, R78, R81). -/

namespace Sys2Proof.Machine

/-! ### What the decoder answers (R80) -/

theorem decode_of_no_row {w : Word} (h : encodingRow (field w 31 28) = none) :
    decode w = .error .reservedOpcode := by
  simp only [decode, h]

theorem decode_of_mismatch {w p m : Word} (h : encodingRow (field w 31 28) = some (p, m))
    (hm : w &&& m ≠ p) : decode w = .error .reservedBits := by
  simp only [decode, h, if_neg hm]

/-- The row need not be the one of the word's own opcode: only that one can match. -/
theorem decode_of_match {w p m : Word} {op : Nat} (h : encodingRow op = some (p, m))
    (hm : w &&& m = p) : decode w = operandsOf op w := by
  have hop := opcode_of_match h hm
  subst hop
  simp only [decode, h, if_pos hm]

/-- R72: an opcode's operands make an instruction of that opcode. -/
theorem operandsOf_opcode {op : Nat} {w : Word} {i : Instr} (h : operandsOf op w = .ok i) :
    i.opcode = op := by
  unfold operandsOf at h
  split at h <;> cases h <;> rfl

theorem exists_operandsOf {op : Nat} (h : op ≤ 8) (w : Word) : ∃ i, operandsOf op w = .ok i := by
  interval_cases op <;> exact ⟨_, rfl⟩

/-- A word decodes to an instruction exactly when it matches the row of the instruction's opcode and its
operand fields hold the instruction's operands (R73, R80). -/
theorem decode_eq_ok_iff {w : Word} {i : Instr} :
    decode w = .ok i ↔ ∃ p m, encodingRow i.opcode = some (p, m) ∧ w &&& m = p ∧
      operandsOf i.opcode w = .ok i := by
  constructor
  · intro h
    rcases hrow : encodingRow (field w 31 28) with _ | ⟨p, m⟩
    · rw [decode_of_no_row hrow] at h
      cases h
    · by_cases hm : w &&& m = p
      · rw [decode_of_match hrow hm] at h
        rw [operandsOf_opcode h]
        exact ⟨p, m, hrow, hm, h⟩
      · rw [decode_of_mismatch hrow hm] at h
        cases h
  · rintro ⟨p, m, hrow, hm, hops⟩
    rw [decode_of_match hrow hm, hops]

/-! ### The operand fields of a command word (R70, R71) -/

section
variable {op a b c : Nat} (ha : a < 256) (hb : b < 256) (hc : c < 256)
include ha hb hc

theorem field_a_commandWord : field (commandWord op a b c) 23 16 = a := by
  rw [commandWord_eq ha hb hc, field_a, BitVec.toNat_ofNat]
  omega

theorem field_b8_commandWord : field (commandWord op a b c) 15 8 = b := by
  rw [commandWord_eq ha hb hc, field_b8, BitVec.toNat_ofNat]
  omega

theorem field_b7_commandWord : field (commandWord op a b c) 14 8 = b % 128 := by
  rw [commandWord_eq ha hb hc, field_b7, BitVec.toNat_ofNat]
  omega

theorem field_c7_commandWord : field (commandWord op a b c) 6 0 = c % 128 := by
  rw [commandWord_eq ha hb hc, field_c7, BitVec.toNat_ofNat]
  omega

end

/-- The word of an instruction carries its operands, which fit the fields they are read from. -/
theorem operandsOf_encode {i : Instr} (h : i.WellFormed) : operandsOf i.opcode (encode i) = .ok i := by
  cases i
  case nop => rfl
  case allNotesOff => rfl
  all_goals
    simp only [wf_noteOn, wf_noteOff, wf_setInstrument, wf_setVolume, wf_alterVol, wf_alterPitch,
      wf_setMaxNotes] at h
    simp (disch := omega) only [encode, Instr.opcode, operandsOf, field_a_commandWord,
      field_b8_commandWord, field_b7_commandWord, field_c7_commandWord, Nat.mod_eq_of_lt]

theorem encode_matches_row (i : Instr) : Laws.EncodesToItsRow.Statement i := by
  cases i with
  | nop => exact Laws.EncodesToItsRow.nop
  | noteOn ch note vel => exact Laws.EncodesToItsRow.noteOn ch note vel
  | noteOff ch note => exact Laws.EncodesToItsRow.noteOff ch note
  | allNotesOff => exact Laws.EncodesToItsRow.allNotesOff
  | setInstrument ch idx => exact Laws.EncodesToItsRow.setInstrument ch idx
  | setVolume pct => exact Laws.EncodesToItsRow.setVolume pct
  | alterVol ch vel => exact Laws.EncodesToItsRow.alterVol ch vel
  | alterPitch ch bend => exact Laws.EncodesToItsRow.alterPitch ch bend
  | setMaxNotes n => exact Laws.EncodesToItsRow.setMaxNotes n

/-- Settles O11: the word matches the row of its opcode, and its fields hold the operands. -/
theorem decodeOfEncodeIsTheInstruction : Obligations.DecodeOfEncodeIsTheInstruction := by
  intro i hwf
  obtain ⟨p, m, hrow, hm⟩ := encode_matches_row i hwf
  exact decode_eq_ok_iff.mpr ⟨p, m, hrow, hm, operandsOf_encode hwf⟩

/-! ### A word that decodes is the word of its instruction (R70 to R73) -/

theorem field_lt (w : Word) {hi lo n : Nat} (h : 2 ^ (hi + 1 - lo) ≤ n) : field w hi lo < n :=
  (Nat.mod_lt _ (by positivity)).trans_le h

/-- What a field holds fits the operand it becomes. -/
theorem operandsOf_wellFormed {op : Nat} {w : Word} {i : Instr} (h : operandsOf op w = .ok i) :
    i.WellFormed := by
  obtain rfl := operandsOf_opcode h
  cases i
  case nop => exact wf_nop
  case allNotesOff => exact wf_allNotesOff
  all_goals
    cases h
    simp [field_lt]

/-- The lowest byte; `field_a` and `field_b8` are the two above it. -/
theorem field_c8 (a b c d : Byte) : field (ofBytes a b c d) 7 0 = d.toNat := by
  have := a.isLt; have := b.isLt; have := c.isLt; have := d.isLt
  simp only [field, ofBytes_toNat]; omega

theorem toNat_add_lt_of_and_eq_zero {b k : Byte} (h : b &&& k = 0) : b.toNat + k.toNat < 256 :=
  BitVec.toNat_add_of_and_eq_zero h ▸ (b + k).isLt

/-- A word that matches an opcode's row is the opcode and three operand bytes, each in the range the ones
of the row's mask leave it. -/
theorem exists_commandWord_of_match {op : Nat} {w p m : Word} (hrow : encodingRow op = some (p, m))
    (hm : w &&& m = p) : ∃ b c d : Nat, w = commandWord op b c d ∧
      b + field m 23 16 < 256 ∧ c + field m 15 8 < 256 ∧ d + field m 7 0 < 256 := by
  obtain ⟨-, mb, mc, md, rfl, rfl⟩ := encodingRow_bytes hrow
  obtain ⟨a, b, c, d, rfl⟩ := exists_bytes w
  rw [ofBytes_and, ofBytes_inj, and_all_ones] at hm
  obtain ⟨rfl, hb, hc, hd⟩ := hm
  refine ⟨b.toNat, c.toNat, d.toNat, ?_, ?_⟩
  · simp only [commandWord_eq b.isLt c.isLt d.isLt, BitVec.ofNat_toNat, BitVec.setWidth_eq]
  · rw [field_a, field_b8, field_c8]
    exact ⟨toNat_add_lt_of_and_eq_zero hb, toNat_add_lt_of_and_eq_zero hc,
      toNat_add_lt_of_and_eq_zero hd⟩

/-- An operand byte is read back whole, and a byte that is no operand is zero. -/
theorem encode_of_match {w p m : Word} {i : Instr} (hrow : encodingRow i.opcode = some (p, m))
    (hm : w &&& m = p) (hops : operandsOf i.opcode w = .ok i) : encode i = w := by
  obtain ⟨b, c, d, rfl, hb, hc, hd⟩ := exists_commandWord_of_match hrow hm
  cases i
  all_goals
    obtain ⟨-, rfl⟩ := Prod.mk.inj (Option.some.inj hrow)
    simp only [field, BitVec.reduceToNat] at hb hc hd
    simp (disch := omega) only [Instr.opcode, operandsOf, field_a_commandWord, field_b8_commandWord,
      field_b7_commandWord, field_c7_commandWord] at hops
    cases hops
    simp only [encode, Instr.opcode]
    congr 1 <;> omega

/-- Settles O12: the operands fit because they were read from fields, and the row leaves no other bit. -/
theorem encodeOfDecodeIsTheWord : Obligations.EncodeOfDecodeIsTheWord := by
  intro w i h
  obtain ⟨p, m, hrow, hm, hops⟩ := decode_eq_ok_iff.mp h
  exact ⟨operandsOf_wellFormed hops, encode_of_match hrow hm hops⟩

/-! ### A word is the command of the row it matches (R73) -/

/-- Settles O10: a row's word decodes to its opcode's instruction, and no other row's word does. -/
theorem wordIsTheCommandOfTheRowItMatches : Obligations.WordIsTheCommandOfTheRowItMatches := by
  intro w op pattern mask hmem
  have hrow : encodingRow op = some (pattern, mask) := by
    fin_cases hmem <;> rfl
  constructor
  · rintro ⟨i, hdec, rfl⟩
    obtain ⟨p, m, hrow', hm, -⟩ := decode_eq_ok_iff.mp hdec
    obtain ⟨rfl, rfl⟩ := Prod.mk.inj (Option.some.inj (hrow'.symm.trans hrow))
    exact hm
  · intro hm
    obtain ⟨hop, -⟩ := encodingRow_bytes hrow
    obtain ⟨i, hops⟩ := exists_operandsOf hop w
    exact ⟨i, (decode_of_match hrow hm).trans hops, operandsOf_opcode hops⟩

/-! ### The words of no row (R74) -/

theorem encodingRow_of_reserved {op : Nat} (h : 9 ≤ op) : encodingRow op = none := by
  rcases hrow : encodingRow op with _ | ⟨p, m⟩
  · rfl
  · obtain ⟨hop, -⟩ := encodingRow_bytes hrow
    omega

theorem exists_encodingRow {op : Nat} (h : op ≤ 8) : ∃ p m, encodingRow op = some (p, m) := by
  interval_cases op <;> exact ⟨_, _, rfl⟩

/-- The reserved-zero bits of R72 are ones of R73's mask and zeros of its match. -/
theorem reservedZero_of_row {op : Nat} {p m : Word} (h : encodingRow op = some (p, m)) :
    m &&& reservedZero op = reservedZero op ∧ p &&& reservedZero op = 0 := by
  unfold encodingRow at h
  split at h <;> cases h <;> decide

theorem reservedZero_of_match {op : Nat} {w p m : Word} (h : encodingRow op = some (p, m))
    (hm : w &&& m = p) : w &&& reservedZero op = 0 := by
  obtain ⟨hmask, hmatch⟩ := reservedZero_of_row h
  rw [← hmask, ← BitVec.and_assoc, hm, hmatch]

/-- Settles O9: a reserved opcode has no row, a reserved bit keeps a word from its opcode's row, and a
word that does not decode changes nothing. -/
theorem reservedWordsAreIgnored : Obligations.ReservedWordsAreIgnored := by
  intro s w rest hin
  obtain ⟨-, herror, -, -⟩ := stepAppliesTheNextEvent s rest
  refine ⟨fun hop => ?_, fun hop hbits => ?_⟩
  · have hdec := decode_of_no_row (encodingRow_of_reserved hop)
    exact ⟨hdec, herror w _ hin hdec⟩
  · obtain ⟨p, m, hrow⟩ := exists_encodingRow hop
    have hdec := decode_of_mismatch hrow fun hm => hbits (reservedZero_of_match hrow hm)
    exact ⟨hdec, herror w _ hin hdec⟩

/-! ### The assembler and the worked encodings (R77, R78, R81) -/

/-- Settles O58: the check of `assemble` is `WellFormed`, and the word it emits decodes by O11. -/
theorem assemblerRefusesExactlyWideOperands : Obligations.AssemblerRefusesExactlyWideOperands := by
  intro i
  by_cases hwf : i.WellFormed
  · have hword : assemble i = some [.cmd (encode i)] := if_pos hwf
    refine ⟨by simp [hword, hwf], fun es hes => ⟨encode i, ?_, decodeOfEncodeIsTheInstruction i hwf⟩⟩
    rw [hword] at hes
    exact (Option.some.inj hes).symm
  · have hnone : assemble i = none := if_neg hwf
    simp [hnone, hwf]

/-- Settles O57: each pseudo-instruction is an arm of `expand`. -/
theorem pseudoInstructionsExpand : Obligations.PseudoInstructionsExpand := fun _ _ _ => ⟨rfl, rfl, rfl⟩

/-- Settles O13: the decoder runs on the eleven words. -/
theorem workedEncodingsDecode : Obligations.WorkedEncodingsDecode :=
  ⟨rfl, rfl, rfl, rfl, rfl, rfl, rfl, rfl, rfl, rfl, rfl⟩

end Sys2Proof.Machine
end

section
/-! PROOFS. The note frequency's statements: the carrier increment by octave and step (R91), its value at A4
and over an octave (R94), and the modulator increment (R93). -/

namespace Sys2Proof.Machine

/-! ### The increment by octave and step (R91) -/

/-- `floor(m * 2^o / 2^31)` as R91 writes it for either sign of the octave. -/
def scaleByOctave (m : Nat) (o : Int) : Nat :=
  if 0 ≤ o then m * 2 ^ o.toNat / 2 ^ 31 else m / 2 ^ (31 - o).toNat

/-- R91's quotient and remainder are the only ones with the remainder in the octave. -/
theorem pitchIncRaw_of_octave_step (a : Word) {p o : Int} {k : Nat} (hk : k < 768)
    (hp : p - pitchA4 = 768 * o + k) :
    pitchIncRaw a p = scaleByOctave (a.toNat * freqRom k) o := by
  have ho : (p - pitchA4) / 768 = o := by omega
  have hk' : ((p - pitchA4) % 768).toNat = k := by omega
  simp only [pitchIncRaw, ho, hk', scaleByOctave]

theorem exists_octave_step (p : Int) : ∃ (o : Int) (k : Nat), k < 768 ∧ p - pitchA4 = 768 * o + k :=
  ⟨(p - pitchA4) / 768, ((p - pitchA4) % 768).toNat, by omega, by omega⟩

/-- Settles O28: the octave and step given are the ones `PitchInc` computes with. -/
theorem pitchIncFollowsOctaveAndStep : Obligations.PitchIncFollowsOctaveAndStep := by
  intro a p o k hk hp
  rw [pitchInc, BitVec.toNat_ofNat, pitchIncRaw_of_octave_step a hk hp, scaleByOctave]

/-! ### A4 and the octave (R94) -/

/-- An octave down drops one bit, whichever side of octave 0 it starts from. -/
theorem scaleByOctave_eq_half (m : Nat) (o : Int) : scaleByOctave m o = scaleByOctave m (o + 1) / 2 := by
  obtain ho | rfl | ho : 0 ≤ o ∨ o = -1 ∨ o + 1 < 0 := by omega
  · have hsucc : (o + 1).toNat = o.toNat + 1 := by omega
    rw [scaleByOctave, scaleByOctave, if_pos ho, if_pos (by omega), hsucc, pow_succ 2 o.toNat,
      Nat.div_right_comm, ← mul_assoc, Nat.mul_div_cancel _ two_pos]
  · simp [scaleByOctave, Nat.div_div_eq_div_mul]
  · have hsucc : (31 - o).toNat = (31 - (o + 1)).toNat + 1 := by omega
    rw [scaleByOctave, scaleByOctave, if_neg (by omega), if_neg (by omega), hsucc, pow_succ,
      Nat.div_div_eq_div_mul]

theorem pitchIncRaw_eq_half (a : Word) (p : Int) : pitchIncRaw a p = pitchIncRaw a (p + 768) / 2 := by
  obtain ⟨o, k, hk, hp⟩ := exists_octave_step p
  rw [pitchIncRaw_of_octave_step a hk hp, pitchIncRaw_of_octave_step (o := o + 1) a hk (by omega),
    ← scaleByOctave_eq_half]

theorem freqRom_zero : freqRom 0 = 2 ^ 31 := rfl

theorem pitchIncRaw_pitchA4 (a : Word) : pitchIncRaw a pitchA4 = a.toNat := by
  rw [pitchIncRaw_of_octave_step (o := 0) (k := 0) a (by omega) (by omega), freqRom_zero]
  simp [scaleByOctave]

/-- Settles O29: `FREQ[0]` is 2^31, and the increment is half the one an octave up, rounded down. -/
theorem pitchIncDoublesPerOctave : Obligations.PitchIncDoublesPerOctave := by
  intro a p
  constructor
  · calc pitchInc a pitchA4 = BitVec.ofNat 32 a.toNat := congrArg _ (pitchIncRaw_pitchA4 a)
      _ = a := by simp
  · have := pitchIncRaw_eq_half a p
    omega

/-! ### The modulator increment (R93) -/

/-- Settles O32: a ratio of 0 clears the product, and 256 is cancelled by the division. -/
theorem modIncScalesTheCarrier : Obligations.ModIncScalesTheCarrier := by
  intro car mult
  refine ⟨BitVec.toNat_ofNat .., ?_, ?_⟩
  · rintro rfl
    simp [modIncOf]
  · rintro rfl
    simp [modIncOf]

end Sys2Proof.Machine
end

section
/-! PROOFS. The voice pool's statements: the allocator with its oldest-first stealing (R100, R101), and the note
commands NOTE_ON (R103), NOTE_OFF (R108) and ALL_NOTES_OFF (R110, R111). -/

namespace Sys2Proof.Machine

/-! ### The allocator (R100, R101) -/

theorem allocate_of_some {vs : List Voice} {i : Nat} (h : firstFree vs = some i) : allocate vs = i := by
  simp [allocate, h]

theorem allocate_of_none {vs : List Voice} (h : firstFree vs = none) : allocate vs = oldest vs := by
  simp [allocate, h]

/-- Settles O16: phase FREE answers if some voice is inactive, else phase STEAL does. -/
theorem allocateTakesTheFirstFreeElseTheOldest : Obligations.AllocateTakesTheFirstFreeElseTheOldest := by
  intro vs hne
  cases hfree : firstFree vs with
  | some i =>
    obtain ⟨v, hv, hinactive, hlow⟩ := firstFree_eq_some hfree
    rw [allocate_of_some hfree]
    refine ⟨v, hv, fun _ => ⟨hinactive, hlow⟩, fun hall => ?_⟩
    exact absurd (hall v (List.mem_of_getElem? hv)) (by simp [hinactive])
  | none =>
    obtain ⟨v, hv, holdest, hlow⟩ := oldest_spec hne
    rw [allocate_of_none hfree]
    refine ⟨v, hv, fun ⟨w, hw, hinactive⟩ => ?_, fun _ => ⟨holdest, hlow⟩⟩
    exact absurd ((firstFree_eq_none_iff vs).mp hfree w hw) (by simp [hinactive])

/-! ### NOTE_ON (R103) -/

theorem exec_noteOn_of_nv_le {s : State} {ch : Nat} (h : s.cfg.nv ≤ ch) (note vel : Nat) :
    exec (.noteOn ch note vel) s = .next s := exec_of_rangeReason (if_pos h)

/-- A 7-bit note is stored as it is. -/
theorem claimedVoice_note_toNat (cfg : Config) (ins : Instrument) (ch : Nat) {note : Nat} (h : note < 128)
    (vel : Nat) : (claimedVoice cfg ins ch note vel).note.toNat = note := Nat.mod_eq_of_lt h

/-- An 8-bit channel is stored as it is. -/
theorem claimedVoice_channel_toNat (cfg : Config) (ins : Instrument) {ch : Nat} (h : ch < 256)
    (note vel : Nat) : (claimedVoice cfg ins ch note vel).channel.toNat = ch := Nat.mod_eq_of_lt h

/-- Settles O17: the write at the allocated index is `claimedVoice`, whose fields lose nothing to their
widths for a well-formed command. -/
theorem noteOnClaimsTheAllocatedVoice : Obligations.NoteOnClaimsTheAllocatedVoice := by
  intro s ch note vel hwf
  obtain ⟨hbyte, hnote, hvel⟩ := (wf_noteOn ..).mp hwf
  refine ⟨fun hch => exec_noteOn_of_nv_le hch note vel, fun hch hlen => ?_⟩
  have hpool : s.voices ≠ [] := List.ne_nil_of_length_pos (by omega)
  refine ⟨_, claimedVoice s.cfg (s.instrumentOf ch) ch note vel, exec_noteOn hch, rfl, ?_, ?_, ?_,
    rfl, rfl, modDepthOf_toNat _ hvel, ampOf_toNat _ hvel, rfl, rfl, rfl, rfl, rfl, rfl,
    claimedVoice_note_toNat _ _ ch hnote vel, claimedVoice_channel_toNat _ _ hbyte note vel⟩
  · simp
  · simp [allocate_lt hpool]
  · intro j hj
    exact List.getElem?_set_ne hj.symm

/-! ### NOTE_OFF (R108) -/

theorem exec_noteOff_of_nv_le {s : State} {ch : Nat} (h : s.cfg.nv ≤ ch) (note : Nat) :
    exec (.noteOff ch note) s = .next s := exec_of_rangeReason (if_pos h)

@[simp] theorem setVoices_self (s : State) : s.setVoices s.voices = s := rfl

/-- Settles O18: the scan changes nothing without a match, and sends the first match to Release. -/
theorem noteOffReleasesTheFirstMatch : Obligations.NoteOffReleasesTheFirstMatch := by
  intro s ch note _
  refine ⟨fun hch => exec_noteOff_of_nv_le hch note, fun hch hnone => ?_,
    fun hch i v hi hv hlow => ⟨fun hzero => ?_, fun hsus => ?_⟩⟩
  · rw [exec_noteOff hch, releaseFirst_of_none hnone, setVoices_self, ite_self]
  · rw [exec_noteOff hch, if_pos hzero]
  · rw [exec_noteOff hch, if_neg hsus, releaseFirst_of_first hi hv hlow]
    rfl

/-! ### ALL_NOTES_OFF (R110, R111) -/

/-- Settles O19: the meaning maps `Voice.silence`, which writes the six fields, over the pool. -/
theorem allNotesOffSilencesEveryVoice : Obligations.AllNotesOffSilencesEveryVoice := by
  intro s
  refine ⟨_, exec_allNotesOff s, rfl, by simp, fun i v hi => ?_⟩
  simp [hi, Voice.silence]

@[simp] theorem setVoices_setVoices (s : State) (vs ws : List Voice) :
    (s.setVoices vs).setVoices ws = s.setVoices ws := rfl

@[simp] theorem Voice.silence_silence (v : Voice) : v.silence.silence = v.silence := rfl

/-- An inactive voice is not visited (44_sample_tick.md R161). -/
theorem voiceTick_of_inactive (ins : Instrument) (vol : Half) {v : Voice} (h : v.active = false) :
    voiceTick ins vol v = (v, 0) := if_pos h

theorem tickScan_of_inactive (s : State) {vs : List Voice} (h : ∀ v ∈ vs, v.active = false) (acc : Int) :
    tickScan s vs acc = (vs, acc) := by
  induction vs generalizing acc with
  | nil => rfl
  | cons v vs ih =>
    obtain ⟨hv, hvs⟩ := List.forall_mem_cons.mp h
    simp [tickScan, voiceTick_of_inactive _ _ hv, ih hvs]

theorem frameOf_quantize_zero : frameOf (quantize 0) = 0 := by decide

/-- A Tick over a silent pool leaves it alone and produces frame 0. -/
theorem tickState_of_inactive {s : State} (h : ∀ v ∈ s.voices, v.active = false) :
    tickState s = s.emitFrame 0 := by
  simp [tickState, tickScan_of_inactive s h, frameOf_quantize_zero]

/-- Settles O20: `Voice.silence` is idempotent, and the pool it leaves is silent. -/
theorem allNotesOffIsIdempotent : Obligations.AllNotesOffIsIdempotent := by
  intro s t hst
  obtain rfl := Host.Outcome.next.inj ((exec_allNotesOff s).symm.trans hst)
  have hsilent : ∀ v ∈ s.voices.map Voice.silence, v.active = false := by simp
  refine ⟨?_, rfl, rfl, rfl, rfl, _, rfl, ?_, ?_⟩
  · simp [exec_allNotesOff, Function.comp_def]
  · rw [tickState_of_inactive hsilent, emitFrame_frame]
  · rw [tickState_of_inactive hsilent, emitFrame_voices]

end Sys2Proof.Machine
end

section
/-! PROOFS. The envelope's statements: the frame of a step (R121), the steps and lengths of the four moving
states (R122 to R126), the bounds on a whole envelope (R129), and the document's scenario (R131). -/

namespace Sys2Proof.Machine

/-! ### What a step writes (R121, R125) -/

/-- Settles O34: `envStep_frame` names the nine fields an envelope step leaves alone. -/
theorem envStepWritesOnlyLevelStateActive : Obligations.EnvStepWritesOnlyLevelStateActive := by
  intro ins v
  obtain ⟨hcarInc, hmodInc, hmodDepth, hamp, hphase, hmodPhase, htime, hnote, hchannel, -⟩ :=
    envStep_frame ins v
  rw [← hcarInc, ← hmodInc, ← hmodDepth, ← hamp, ← hphase, ← hmodPhase, ← htime, ← hnote, ← hchannel]

theorem levelWord_toNat {n : Nat} (h : n ≤ levelOne) : (BitVec.ofNat 32 n).toNat = n :=
  Nat.mod_eq_of_lt (h.trans_lt (by norm_num))

/-- Settles O38: `envStep_sustain`, with a sustain level that fits its word. -/
theorem sustainHoldsTheSustainLevel : Obligations.SustainHoldsTheSustainLevel := fun ins _ hs =>
  ⟨_, envStep_sustain hs, levelWord_toNat (effSus_le ins.sustain)⟩

/-! ### Rising to full scale (R122) -/

/-- While the sum stays below full scale, `n` Attack steps add `n` times the rate. -/
theorem envRun_attack_rise {ins : Instrument} {v : Voice} (hs : v.state = .attack) {n : Nat}
    (h : v.level.toNat + n * effRate ins.attackRate < levelOne) :
    envRun ins n v =
      { v with level := BitVec.ofNat 32 (v.level.toNat + n * effRate ins.attackRate) } := by
  induction n with
  | zero => simp [envRun]
  | succ n ih =>
    rw [Nat.succ_mul, ← Nat.add_assoc] at h ⊢
    have hlevel := levelWord_toNat (n := v.level.toNat + n * effRate ins.attackRate) (by omega)
    rw [envRun_succ, ih (by omega),
      envStep_attack_rise (v := { v with level := BitVec.ofNat 32 _ }) hs (by rwa [hlevel]), hlevel]

/-- The step after the last one that stays below full scale ends the Attack. -/
theorem envRun_attack_top {ins : Instrument} {v : Voice} (hs : v.state = .attack) (h0 : v.level = 0) :
    envRun ins (ceilDiv levelOne (effRate ins.attackRate)) v =
      { v with level := 1073741824, state := .decay } := by
  have hpos := effRate_pos ins.attackRate
  obtain ⟨n, hn⟩ := Nat.exists_eq_succ_of_ne_zero
    ((lt_ceilDiv_iff (a := levelOne) (n := 0) hpos).mpr (by norm_num)).ne'
  have hbelow : n * effRate ins.attackRate < levelOne := (lt_ceilDiv_iff hpos).mp (by omega)
  have htop : levelOne ≤ (n + 1) * effRate ins.attackRate := (ceilDiv_le_iff hpos).mp hn.le
  rw [Nat.succ_mul] at htop
  have hlevel := levelWord_toNat hbelow.le
  rw [hn, envRun_succ, envRun_attack_rise hs (by simpa [h0]),
    envStep_attack_top (v := { v with level := BitVec.ofNat 32 _ }) hs (by simpa [h0, hlevel])]

/-- Settles O35: the two Attack steps, and the runs of them. -/
theorem attackRisesToFullScale : Obligations.AttackRisesToFullScale := by
  intro ins v hs
  refine ⟨envStep_attack_top hs, fun hlow => ⟨_, envStep_attack_rise hs hlow, levelWord_toNat hlow.le⟩,
    fun h0 => ⟨fun n hn => ?_, envRun_attack_top hs h0⟩⟩
  have hbelow := (lt_ceilDiv_iff (effRate_pos ins.attackRate)).mp hn
  rw [envRun_attack_rise hs (by simpa [h0])]
  exact ⟨hs, by simpa [h0] using levelWord_toNat hbelow.le⟩

/-! ### Falling by a constant (R123, R126) -/

/-- Decay and Release have one shape: from `v` at any level, a step takes `drop` off a level above
`floor + drop` and turns a lower one into `last`. -/
structure FallsTo (ins : Instrument) (v last : Voice) (floor drop : Nat) : Prop where
  falls : ∀ l : Word, floor + drop < l.toNat →
    envStep ins { v with level := l } = { v with level := BitVec.ofNat 32 (l.toNat - drop) }
  ends : ∀ l : Word, l.toNat ≤ floor + drop → envStep ins { v with level := l } = last

theorem decay_fallsTo (ins : Instrument) {v : Voice} (hs : v.state = .decay) :
    FallsTo ins v { v with level := BitVec.ofNat 32 (effSus ins.sustain),
                           state := if effSus ins.sustain = 0 then .release else .sustain }
      (effSus ins.sustain) (decayDrop ins) :=
  ⟨fun l => envStep_decay_fall (v := { v with level := l }) hs,
    fun l => envStep_decay_end (v := { v with level := l }) hs⟩

theorem release_fallsTo (ins : Instrument) {v : Voice} (hs : v.state = .release) :
    FallsTo ins v { v with level := 0, state := .idle, active := false } 0 (effRate ins.releaseRate) :=
  ⟨fun _ h => envStep_release_fall hs (by simpa using h),
    fun _ h => envStep_release_end hs (by simpa using h)⟩

theorem loweredWord_toNat (l : Word) (n : Nat) : (BitVec.ofNat 32 (l.toNat - n)).toNat = l.toNat - n :=
  Nat.mod_eq_of_lt (by omega)

section Falls

variable {ins : Instrument} {v last : Voice} {floor drop : Nat} (hf : FallsTo ins v last floor drop)
include hf

/-- The steps before the one that ends the fall each take `drop` off the level; step 0 is none. -/
theorem FallsTo.envRun_falls {n : Nat} (hn : n < max 1 (ceilDiv (v.level.toNat - floor) drop)) :
    envRun ins n v = { v with level := BitVec.ofNat 32 (v.level.toNat - n * drop) } := by
  induction n with
  | zero => simp [envRun]
  | succ n ih =>
    have hlt : n + 1 < ceilDiv (v.level.toNat - floor) drop := by omega
    have hpos : 0 < drop := Nat.pos_of_ne_zero fun h => by simp [h] at hlt
    have habove := (lt_ceilDiv_iff hpos).mp hlt
    rw [Nat.succ_mul] at habove ⊢
    have hlevel := loweredWord_toNat v.level (n * drop)
    rw [envRun_succ, ih (by omega), hf.falls _ (by omega), hlevel, Nat.sub_sub]

/-- The fall ends after the steps that cover it, after one if nothing is to be covered. -/
theorem FallsTo.envRun_ends (hpos : 0 < drop ∨ v.level.toNat ≤ floor) :
    envRun ins (max 1 (ceilDiv (v.level.toNat - floor) drop)) v = last := by
  obtain ⟨n, hn⟩ : ∃ n, max 1 (ceilDiv (v.level.toNat - floor) drop) = n + 1 :=
    ⟨_, (Nat.sub_add_cancel (le_max_left ..)).symm⟩
  have hcover : v.level.toNat - floor ≤ (n + 1) * drop := by
    rcases hpos with hpos | hlow
    · exact (ceilDiv_le_iff hpos).mp (hn ▸ le_max_right ..)
    · omega
  rw [Nat.succ_mul] at hcover
  have hlevel := loweredWord_toNat v.level (n * drop)
  rw [hn, envRun_succ, hf.envRun_falls (by omega), hf.ends _ (by omega)]

end Falls

/-- Settles O36: Decay falls to the sustain level, and where it does not move it is there already. -/
theorem decayFallsToTheSustainLevel : Obligations.DecayFallsToTheSustainLevel := by
  rintro ins v _ drop hs rfl hdrop
  obtain rfl : drop = decayDrop ins := hdrop
  have hf := decay_fallsTo ins hs
  refine ⟨hf.ends v.level, fun h => ⟨_, hf.falls v.level h, loweredWord_toNat ..⟩,
    fun hfull => ⟨fun n hn => ?_, ?_⟩⟩
  · rw [hf.envRun_falls (by rwa [hfull])]
    exact ⟨hs, hfull ▸ loweredWord_toNat ..⟩
  · rw [← hfull]
    exact hf.envRun_ends ((effSus_le ins.sustain).lt_or_eq.imp decayDrop_pos fun h => by simp [hfull, h])

/-- Settles O39: Release falls to 0, and a rate is never 0. -/
theorem releaseFallsToIdle : Obligations.ReleaseFallsToIdle := by
  rintro ins v _ hs rfl
  have hf := release_fallsTo ins hs
  refine ⟨envStep_release_end hs, fun h => ⟨_, envStep_release_fall hs h, loweredWord_toNat ..⟩,
    fun n hn => ?_, hf.envRun_ends (.inl (effRate_pos _))⟩
  rw [hf.envRun_falls hn]
  exact ⟨hs, loweredWord_toNat ..⟩

/-! ### The whole envelope (R124, R129) -/

/-- Settles O37: Decay ends in Release at level 0, and no rate is below 0, so the next step ends it. -/
theorem zeroSustainRunsOneReleaseTick : Obligations.ZeroSustainRunsOneReleaseTick := by
  intro ins v hs hsus hlow
  have hend : envStep ins v = { v with level := 0, state := .release } := by
    rw [envStep_decay_end hs (by omega), hsus]
    rfl
  simp [envRun, hend, envStep_release_end]

/-- Settles O40: an Attack, a Decay, and with zero sustain one Release step; a Release of its own length,
which is at most that of a Release from full scale. -/
theorem envelopeTerminates : Obligations.EnvelopeTerminates := by
  refine fun ins v => ⟨fun hs h0 => ?_, fun hlevel => ?_⟩
  · obtain ⟨-, -, hattack⟩ := attackRisesToFullScale ins v hs
    obtain ⟨-, htop⟩ := hattack h0
    obtain ⟨-, -, hdecay⟩ := decayFallsToTheSustainLevel ins
      { v with level := 1073741824, state := .decay } _ (decayDrop ins) rfl rfl rfl
    obtain ⟨-, hend⟩ := hdecay rfl
    rw [← htop, ← envRun_add] at hend
    by_cases hsus : effSus ins.sustain = 0
    · refine ⟨_, le_rfl, .inr ?_⟩
      rw [envRun_succ, hend, envStep_release_end (if_pos hsus) (by simp [hsus])]
    · refine ⟨_, Nat.le_succ _, .inl ?_⟩
      rw [hend, htop]
      exact if_neg hsus
  · have hrate := effRate_pos ins.releaseRate
    obtain ⟨-, -, -, hend⟩ := releaseFallsToIdle ins v.toRelease _ rfl rfl
    refine ⟨_, le_rfl, max_le ?_ ?_, congrArg Voice.state hend, congrArg Voice.active hend⟩
    · exact (lt_ceilDiv_iff hrate).mpr (by norm_num)
    · exact (ceilDiv_le_iff hrate).mpr (hlevel.trans ((ceilDiv_le_iff hrate).mp le_rfl))

/-! ### The document's scenario (R131) -/

theorem bankScenario_attackLength : ceilDiv (2 ^ 30) (effRate bankScenario.attackRate) = 2205 := rfl

theorem bankScenario_sustain : effSus bankScenario.sustain = 644245094 := rfl

theorem bankScenario_decayDrop : decayDrop bankScenario = 32465 := rfl

theorem bankScenario_decayLength : max 1 (ceilDiv (2 ^ 30 - 644245094) 32465) = 13230 := rfl

/-- Settles O41: an Attack of 2205 steps, then a Decay of 13230. -/
theorem scenarioReachesSustainOnTime : Obligations.ScenarioReachesSustainOnTime := by
  rintro v rfl
  generalize hv : claimedVoice exampleConfig bankScenario 0 69 127 = v
  obtain ⟨-, -, hattack⟩ := attackRisesToFullScale bankScenario v (by rw [← hv]; rfl)
  obtain ⟨-, htop⟩ := hattack (by rw [← hv]; rfl)
  obtain ⟨-, -, hdecay⟩ := decayFallsToTheSustainLevel bankScenario
    { v with level := 1073741824, state := .decay } _ _ rfl bankScenario_sustain.symm
    bankScenario_decayDrop.symm
  obtain ⟨hduring, hend⟩ := hdecay rfl
  rw [bankScenario_attackLength] at htop
  rw [bankScenario_decayLength] at hduring hend
  rw [← htop, ← envRun_add] at hend
  obtain ⟨hlast, -⟩ := hduring 13229 (by norm_num)
  rw [← htop, ← envRun_add] at hlast
  refine ⟨congrArg Voice.state htop, ?_, hlast, congrArg Voice.state hend, ?_⟩
  · rw [htop]; rfl
  · rw [hend]; rfl

end Sys2Proof.Machine
end

section
/-! PROOFS. The oscillator and mixer's statements: what a voice contributes and when it is 0 (R145, R146),
the range of the mix (R150), the clamper and quantizer (R151), and the output's guarantees (R152, R153). -/

namespace Sys2Proof.Machine

/-! ### The clamper and quantizer (R151) -/

/-- Toward zero is the floor of the magnitude, with the sign put back. -/
theorem trunc0_of_nonpos {a : Int} (h : a ≤ 0) (b : Int) : trunc0 a b = -(-a / b) := by
  rw [trunc0, ← Int.tdiv_eq_ediv_of_nonneg (by omega), Int.neg_tdiv, neg_neg]

/-- Settles O48: truncation is the floor of a nonnegative product and minus that of a negative one's
magnitude; `outputOf_range` bounds it. -/
theorem quantizerClampsAndTruncates : Obligations.QuantizerClampsAndTruncates := by
  rintro acc x hx
  have hout : outputOf acc = trunc0 (x * 32767) 32768 := by rw [hx]; rfl
  rw [quantize_toInt]
  refine ⟨fun h => ?_, fun h => ?_, outputOf_range acc⟩
  · rw [hout, trunc0, Int.tdiv_eq_ediv_of_nonneg (by omega)]
  · rw [hout, trunc0_of_nonpos (by omega), neg_mul]

/-! ### What contributes 0 (R146) -/

theorem contributionOf_vol_zero (sc : Int) (amp : Half) (level : Word) :
    contributionOf sc amp level 0 = 0 := by
  simp [contributionOf]

theorem contributionOf_amp_zero (sc : Int) (level : Word) (vol : Half) :
    contributionOf sc 0 level vol = 0 := by
  simp [contributionOf]

theorem contributionOf_sine_zero (amp vol : Half) (level : Word) : contributionOf 0 amp level vol = 0 := by
  simp [contributionOf]

theorem mixerLevel_eq_zero {level : Word} (h : level.toNat < 2 ^ 15) : mixerLevel level = 0 :=
  Nat.div_eq_of_lt h

theorem contributionOf_low_level (sc : Int) (amp vol : Half) {level : Word} (h : level.toNat < 2 ^ 15) :
    contributionOf sc amp level vol = 0 := by
  simp [contributionOf, mixerLevel_eq_zero h]

/-- Settles O47: each of the four makes one product 0, and the floors after it stay 0; the fifth case is
computed. -/
theorem silentVoicesContributeZero : Obligations.SilentVoicesContributeZero := by
  refine ⟨fun sc amp vol level => ?_, by decide⟩
  rintro (rfl | rfl | hlevel | rfl)
  · exact contributionOf_vol_zero sc amp level
  · exact contributionOf_amp_zero sc level vol
  · exact contributionOf_low_level sc amp vol hlevel
  · exact contributionOf_sine_zero amp vol level

/-! ### The range of a contribution and of the mix (R145, R150) -/

theorem mixerLevel_le {level : Word} (h : level.toNat ≤ levelOne) : mixerLevel level ≤ 32768 :=
  Nat.div_le_of_le_mul h

/-- The first product: a gain just below 2.0 takes the sine's range to the whole range. -/
theorem gained_range {sc a : Int} (hlo : -32767 ≤ sc) (hhi : sc ≤ 32767) (ha : 0 ≤ a) (ha' : a ≤ 65535) :
    -65534 ≤ sc * a / 2 ^ 15 ∧ sc * a / 2 ^ 15 ≤ 65533 := by
  have hlow : -32767 * 65535 ≤ sc * a := by nlinarith
  have hhigh : sc * a ≤ 32767 * 65535 := by nlinarith
  omega

theorem contributionOf_range {sc : Int} {level : Word} {vol : Half} (hlo : -32767 ≤ sc) (hhi : sc ≤ 32767)
    (amp : Half) (hlevel : level.toNat ≤ levelOne) (hvol : vol.toNat ≤ 32768) :
    -65534 ≤ contributionOf sc amp level vol ∧ contributionOf sc amp level vol ≤ 65533 := by
  obtain ⟨hlo₁, hhi₁⟩ := gained_range hlo hhi (Int.natCast_nonneg amp.toNat) (by omega)
  obtain ⟨hlo₂, hhi₂⟩ := scaled_range hlo₁ hhi₁ (Int.natCast_nonneg (mixerLevel level))
    (Int.ofNat_le.mpr (mixerLevel_le hlevel))
  exact scaled_range hlo₂ hhi₂ (Int.natCast_nonneg vol.toNat) (Int.ofNat_le.mpr hvol)

/-- A visit contributes 0, or what the voice it leaves contributes. -/
theorem voiceTick_snd_cases (ins : Instrument) (vol : Half) (v : Voice) :
    (voiceTick ins vol v).2 = 0 ∨
      (voiceTick ins vol v).2 = contribution vol (voiceTick ins vol v).1 := by
  simp only [voiceTick]
  split
  · exact .inl rfl
  · split
    · exact .inl rfl
    · exact .inr rfl

theorem voiceTick_snd_range {cfg : Config} {v : Voice} (h : v.Inv cfg) (ins : Instrument) {vol : Half}
    (hvol : vol.toNat ≤ 32768) :
    -65534 ≤ (voiceTick ins vol v).2 ∧ (voiceTick ins vol v).2 ≤ 65533 := by
  obtain ⟨hlevel, -⟩ := voiceTick_inv cfg ins vol v h
  rcases voiceTick_snd_cases ins vol v with hzero | hsound
  · rw [hzero]; decide
  · obtain ⟨hlo, hhi⟩ := sine_range (voiceTick ins vol v).1.phase
    rw [hsound]
    exact contributionOf_range hlo hhi _ hlevel hvol

/-- The accumulator of a Tick at its end (44_sample_tick.md R161). -/
def mixOf (s : State) : Int :=
  (s.voices.map fun v => (voiceTick (s.instrumentOf v.channel.toNat) s.vol v).2).sum

theorem State.Inv.mix_range {s : State} (h : s.Inv) :
    -(65534 * s.cfg.nv) ≤ mixOf s ∧ mixOf s ≤ 65533 * s.cfg.nv := by
  obtain ⟨-, hlength, -, -, hvol, -, -, hvoices, -⟩ := h
  have hrange : ∀ c ∈ s.voices.map fun v => (voiceTick (s.instrumentOf v.channel.toNat) s.vol v).2,
      -65534 ≤ c ∧ c ≤ 65533 :=
    List.forall_mem_map.mpr fun v hv => voiceTick_snd_range (hvoices v hv) _ hvol
  have hlo := List.card_nsmul_le_sum _ _ fun c hc => (hrange c hc).1
  have hhi := List.sum_le_card_nsmul _ _ fun c hc => (hrange c hc).2
  rw [List.length_map, hlength, nsmul_eq_mul] at hlo hhi
  unfold mixOf
  omega

/-- Settles O46: each product keeps the range, a visit contributes 0 or a contribution in it, and the sum
has `NV` terms, at most 256. -/
theorem contributionAndSumAreBounded : Obligations.ContributionAndSumAreBounded := by
  refine ⟨fun sc amp vol level hlo hhi hlevel hvol => contributionOf_range hlo hhi amp hlevel hvol, ?_⟩
  intro s acc h hacc
  obtain rfl : acc = mixOf s := hacc
  obtain ⟨-, hnv, -⟩ := h.legal
  obtain ⟨hlo, hhi⟩ := h.mix_range
  exact ⟨hlo, hhi, abs_lt.mpr (by omega)⟩

/-! ### The output (R152, R153) -/

theorem tickState_frame (s : State) : (tickState s).frame = frameOf (quantize (mixOf s)) := by
  simp [tickState, tickScan_snd, mixOf]

theorem leftSample_frameOf (out : Half) : leftSample (frameOf out) = out.toInt :=
  congrArg BitVec.toInt (frameOf_low out)

theorem rightSample_frameOf (out : Half) : rightSample (frameOf out) = out.toInt :=
  congrArg BitVec.toInt (frameOf_high out)

theorem voiceTick_snd_vol_zero (ins : Instrument) (v : Voice) : (voiceTick ins 0 v).2 = 0 := by
  rcases voiceTick_snd_cases ins 0 v with h | h
  · exact h
  · rw [h, contribution, contributionOf_vol_zero]

theorem mixOf_vol_zero {s : State} (h : s.vol = 0) : mixOf s = 0 :=
  List.sum_eq_zero (List.forall_mem_map.mpr fun v _ => by rw [h, voiceTick_snd_vol_zero])

/-- Settles O45: a Tick's frame is the quantized mix in both halves; at volume 0 the mix is 0, and a silent
pool is left alone. -/
theorem outputIsClampedAndSilentWhenItMust : Obligations.OutputIsClampedAndSilentWhenItMust := by
  rintro s _ ⟨⟩
  refine ⟨?_, fun hvol => ?_, fun hsilent => ?_⟩
  · rw [tickState_frame, leftSample_frameOf, rightSample_frameOf, quantize_toInt]
    obtain ⟨hlo, hhi⟩ := outputOf_range (mixOf s)
    exact ⟨hlo, hhi, rfl⟩
  · rw [tickState_frame, mixOf_vol_zero hvol, frameOf_quantize_zero]
  · rw [tickState_of_inactive hsilent]
    exact ⟨rfl, rfl⟩

end Sys2Proof.Machine
end

section
/-! PROOFS. The sample Tick's statements: the whole Tick (R161), one visit of its scan along the datapath
(R140 to R145), and what a Tick leaves alone (R163). -/

namespace Sys2Proof.Machine

/-! ### The whole Tick (R161, R163) -/

@[simp] theorem tickState_map (s : State) : (tickState s).map = s.map := rfl

@[simp] theorem tickState_vol (s : State) : (tickState s).vol = s.vol := rfl

/-- Each voice becomes its own visit. -/
theorem tickState_voices (s : State) :
    (tickState s).voices =
      s.voices.map fun v => (voiceTick (s.instrumentOf v.channel.toNat) s.vol v).1 :=
  tickScan_fst s s.voices 0

/-- Settles O42: the scan maps the visit over the pool, and its sum is `mixOf`. -/
theorem tickVisitsEveryVoiceAndMixes : Obligations.TickVisitsEveryVoiceAndMixes := by
  refine fun s => ⟨tickState s, rfl, rfl, ?_, fun i v hv => ?_, tickState_frame s⟩
  · rw [tickState_voices, List.length_map]
  · rw [tickState_voices, List.getElem?_map, hv, Option.map_some]

/-- Settles O44: `tickState_setMaxn` for what is not read, `voiceTick_frame` for what no visit writes. -/
theorem tickLeavesControlStateAlone : Obligations.TickLeavesControlStateAlone := by
  rintro s _ ⟨⟩
  refine ⟨fun m => congrArg Host.Outcome.next (tickState_setMaxn s m), rfl, rfl, rfl,
    fun i v w hv hw => ?_⟩
  rw [tickState_voices, List.getElem?_map, hv, Option.map_some, Option.some_inj] at hw
  rw [← hw]
  exact voiceTick_frame _ _ v

/-! ### The oscillator (R141, R143) -/

theorem oscStep_frame (v : Voice) :
    oscStep v = { v with modPhase := (oscStep v).modPhase, phase := (oscStep v).phase } := rfl

theorem oscStep_modPhase_toNat (v : Voice) :
    (oscStep v).modPhase.toNat = (v.modPhase.toNat + v.modInc.toNat) % 2 ^ 32 :=
  BitVec.toNat_add ..

/-- The carrier takes the deviation of the advanced modulator. -/
theorem oscStep_phase_toNat (v : Voice) :
    ((oscStep v).phase.toNat : Int) =
      (v.phase.toNat + v.carInc.toNat + deviation v.modDepth (sine (oscStep v).modPhase)) % 2 ^ 32 := by
  rw [oscStep, BitVec.toNat_ofInt]
  exact Int.toNat_of_nonneg (Int.emod_nonneg _ (by norm_num))

/-! ### One visit (R161) -/

section

variable (ins : Instrument) (vol : Half) {v : Voice} (h : v.active = true)
include h

/-- An envelope that ends in this Tick leaves no oscillator to run. -/
theorem voiceTick_of_ends (hend : (envStep ins v.age).active = false) :
    voiceTick ins vol v = (envStep ins v.age, 0) := by
  rw [voiceTick, if_neg (by simp [h]), if_pos hend]

theorem voiceTick_of_sounds (hsound : (envStep ins v.age).active = true) :
    voiceTick ins vol v =
      (oscStep (envStep ins v.age), contribution vol (oscStep (envStep ins v.age))) := by
  rw [voiceTick, if_neg (by simp [h]), if_neg (by simp [hsound])]

end

/-- Settles O43: the visit's three cases. The envelope step keeps the phases, the increments, the depth and
the gain that the oscillator and the contribution read. -/
theorem voiceVisitFollowsTheDatapath : Obligations.VoiceVisitFollowsTheDatapath := by
  intro ins vol v e he
  obtain rfl : e = envStep ins v.age := he
  obtain ⟨hcarInc, hmodInc, hmodDepth, hamp, hphase, hmodPhase, -⟩ := envStep_frame ins v.age
  refine ⟨voiceTick_of_inactive ins vol, voiceTick_of_ends ins vol, fun h hsound =>
    ⟨_, _, voiceTick_of_sounds ins vol h hsound, oscStep_frame _, ?_, ?_, ?_⟩⟩
  · rw [oscStep_modPhase_toNat, hmodPhase, hmodInc, Voice.age_modPhase, Voice.age_modInc]
  · rw [oscStep_phase_toNat, hphase, hcarInc, hmodDepth]
    rfl
  · rw [← Voice.age_amp, ← hamp]
    rfl

end Sys2Proof.Machine
end

section
/-! PROOFS. The control commands' statements: NOP (R170), the writes of SET_INSTRUMENT, SET_VOLUME and
SET_MAX_NOTES (R172, R174, R180), and the two commands on a channel's active voices, ALTER_VOL (R176) and
ALTER_PITCH (R177), with what R178 says of bends. -/

namespace Sys2Proof.Machine

/-! ### NOP (R170) and the writes of one register (R172, R174, R180) -/

/-- Settles O14: NOP's meaning is the next state as it is. -/
theorem nopChangesNothing : Obligations.NopChangesNothing := fun _ => rfl

theorem exec_setInstrument_of_nv_le {s : State} {ch : Nat} (h : s.cfg.nv ≤ ch) (idx : Nat) :
    exec (.setInstrument ch idx) s = .next s := exec_of_rangeReason (if_pos h)

/-- An index out of range is ignored whatever the channel: under one reason or the other. -/
theorem exec_setInstrument_of_ni_le {s : State} {idx : Nat} (h : s.cfg.ni ≤ idx) (ch : Nat) :
    exec (.setInstrument ch idx) s = .next s := by
  by_cases hch : s.cfg.nv ≤ ch
  · exact exec_setInstrument_of_nv_le hch idx
  · exact exec_of_rangeReason ((if_neg hch).trans (if_pos h))

/-- Settles O21: past both checks the meaning sets one entry of the map, which holds an 8-bit index as it
is. -/
theorem setInstrumentWritesTheMap : Obligations.SetInstrumentWritesTheMap := by
  intro s ch idx hwf
  obtain ⟨-, hbyte⟩ := (wf_setInstrument ..).mp hwf
  refine ⟨fun hch => exec_setInstrument_of_nv_le hch idx, fun hidx => exec_setInstrument_of_ni_le hidx ch,
    fun hch hidx hlen => ⟨_, BitVec.ofNat 8 idx, exec_setInstrument hch hidx, rfl, ?_, ?_,
      Nat.mod_eq_of_lt hbyte, fun c hc => ?_⟩⟩
  · simp
  · simp [hlen, hch]
  · exact List.getElem?_set_ne hc.symm

/-- Settles O22: the clamp to 100 percent keeps the volume at most 32768, which 16 bits hold. -/
theorem setVolumeScalesTheClampedPercent : Obligations.SetVolumeScalesTheClampedPercent := by
  intro s pct _
  refine ⟨s.setVol (volumeOf pct), rfl, rfl, volumeOf_toNat pct, ?_⟩
  rw [setVol_vol, volumeOf_toNat]
  omega

/-- Settles O27: a legal `NV` is at most 256, so 9 bits hold the clamped ceiling. -/
theorem setMaxNotesClampsTheCeiling : Obligations.SetMaxNotesClampsTheCeiling := by
  intro s n _ hlegal
  obtain ⟨-, hnv, -⟩ := hlegal
  exact ⟨s.setMaxn (ceilingOf n s.cfg.nv), rfl, rfl, ceilingOf_toNat n hnv⟩

/-! ### The active voices on a channel (R176, R177) -/

/-- A write to the voices sounding on a channel, read at one index of the pool. -/
theorem exists_getElem?_onChannel {vs : List Voice} {i : Nat} {v : Voice} (hi : vs[i]? = some v) (ch : Nat)
    (f : Voice → Voice) : ∃ w, (vs.map fun v => if v.soundsOn ch then f v else v)[i]? = some w ∧
      (v.SoundsOn ch → w = f v) ∧ (¬v.SoundsOn ch → w = v) := by
  refine ⟨if v.soundsOn ch then f v else v, by simp [hi], fun hv => ?_, fun hv => ?_⟩
  · exact if_pos ((soundsOn_iff ch v).mpr hv)
  · exact if_neg (mt (soundsOn_iff ch v).mp hv)

theorem exec_alterVol_of_nv_le {s : State} {ch : Nat} (h : s.cfg.nv ≤ ch) (vel : Nat) :
    exec (.alterVol ch vel) s = .next s := exec_of_rangeReason (if_pos h)

theorem exec_alterPitch_of_nv_le {s : State} {ch : Nat} (h : s.cfg.nv ≤ ch) (bend : Nat) :
    exec (.alterPitch ch bend) s = .next s := exec_of_rangeReason (if_pos h)

/-- Settles O23: the write to a sounding voice is `Voice.withGain`, of its gain alone. -/
theorem alterVolRescalesTheChannel : Obligations.AlterVolRescalesTheChannel := by
  intro s ch vel hwf
  obtain ⟨-, hvel⟩ := (wf_alterVol ..).mp hwf
  refine ⟨fun hch => exec_alterVol_of_nv_le hch vel,
    fun hch => ⟨_, exec_alterVol hch, rfl, List.length_map .., fun i v hi => ?_⟩⟩
  obtain ⟨w, hw, hsounds, hother⟩ :=
    exists_getElem?_onChannel hi ch (Voice.withGain (s.instrumentOf ch) vel)
  refine ⟨w, hw, fun hv => ?_, hother⟩
  obtain rfl := hsounds hv
  exact ⟨rfl, ampOf_toNat _ hvel⟩

/-- Settles O24: the write to a sounding voice is `Voice.withBend`, of its two increments alone. -/
theorem alterPitchBendsTheChannel : Obligations.AlterPitchBendsTheChannel := by
  intro s ch bend _
  refine ⟨fun hch => exec_alterPitch_of_nv_le hch bend,
    fun hch => ⟨_, exec_alterPitch hch, rfl, List.length_map .., fun i v hi => ?_⟩⟩
  obtain ⟨w, hw, hsounds, hother⟩ :=
    exists_getElem?_onChannel hi ch (Voice.withBend s.cfg (s.instrumentOf ch) bend)
  refine ⟨w, hw, fun hv => ?_, hother⟩
  obtain rfl := hsounds hv
  exact ⟨rfl, rfl, rfl⟩

/-! ### Bends start from the note (R178) -/

@[simp] theorem Voice.withBend_withBend (cfg : Config) (ins : Instrument) (b c : Nat) (v : Voice) :
    (v.withBend cfg ins b).withBend cfg ins c = v.withBend cfg ins c := rfl

@[simp] theorem Voice.withBend_soundsOn (cfg : Config) (ins : Instrument) (b ch : Nat) (v : Voice) :
    (v.withBend cfg ins b).soundsOn ch = v.soundsOn ch := rfl

/-- A bend over another pool: the parameters and the instrument named are those of the state. -/
theorem exec_alterPitch_setVoices {s : State} {ch : Nat} (h : ch < s.cfg.nv) (vs : List Voice) (bend : Nat) :
    exec (.alterPitch ch bend) (s.setVoices vs) = .next (s.setVoices (vs.map fun v =>
      if v.soundsOn ch then v.withBend s.cfg (s.instrumentOf ch) bend else v)) :=
  exec_alterPitch (s := s.setVoices vs) h

/-- Settles O25: a bend leaves the instrument the channel names and which voices sound on it, and a second
bend of a voice overwrites the first. -/
theorem bendsDoNotAdd : Obligations.BendsDoNotAdd := by
  intro s t ch b c hst
  by_cases hch : ch < s.cfg.nv
  · obtain rfl := Host.Outcome.next.inj ((exec_alterPitch hch).symm.trans hst)
    rw [exec_alterPitch_setVoices hch, exec_alterPitch hch, List.map_map]
    congr 3
    funext v
    by_cases hv : v.soundsOn ch = true <;> simp [hv]
  · obtain rfl := Host.Outcome.next.inj ((exec_alterPitch_of_nv_le (not_lt.mp hch) b).symm.trans hst)
    rfl

theorem bentPitch_centre (note : Nat) (ins : Instrument) : bentPitch note 64 ins = notePitch note ins := by
  simp [bentPitch]

/-- The centre bend recomputes what NOTE_ON wrote: both start from the voice's 7-bit note. -/
theorem claimedVoice_withBend_centre (cfg : Config) (ins : Instrument) (ch : Nat) {note : Nat}
    (h : note < 128) (vel : Nat) :
    (claimedVoice cfg ins ch note vel).withBend cfg ins 64 = claimedVoice cfg ins ch note vel := by
  rw [Voice.withBend, claimedVoice_note_toNat cfg ins ch h vel, bentPitch_centre]
  rfl

/-- Settles O26: the claimed voice is a fixed point of the write the centre bend makes. -/
theorem bendCentreKeepsTheNoteOnPitch : Obligations.BendCentreKeepsTheNoteOnPitch := by
  intro s t u ch note vel hwf hst htu hch
  obtain ⟨-, hnote, -⟩ := (wf_noteOn ..).mp hwf
  obtain rfl := Host.Outcome.next.inj ((exec_noteOn hch).symm.trans hst)
  obtain rfl := Host.Outcome.next.inj ((exec_alterPitch_setVoices hch _ 64).symm.trans htu)
  have hfixed := claimedVoice_withBend_centre s.cfg (s.instrumentOf ch) ch hnote vel
  cases hpool : s.voices[allocate s.voices]? <;> simp [List.getElem?_set_self', hpool, hfixed]

end Sys2Proof.Machine
end

section
/-! PROOFS. The statements of 60_exceptions.md: no event and no state leads to a fault or a refusal (R190), an
out-of-range command is ignored under the channel's reason first (R191, R193), a command writes V, MAP, VOL
and MAXN at most (R197), and a pause holds the state (R200). -/

namespace Sys2Proof.Machine

/-! ### The pause (R200) -/

/-- Settles O7: `step_nil`. -/
theorem pauseHoldsTheState : Obligations.PauseHoldsTheState := fun _ h => step_nil h

/-! ### No fault and no refusal (R190) -/

/-- A word that does not decode is ignored, and one that does runs a meaning that answers. -/
theorem execCmd_answers (w : Word) (s : State) : ∃ t, execCmd w s = .next t := by
  cases hd : decode w with
  | ok i => rw [execCmd_of_ok hd]; exact exec_answers i s
  | error r => exact ⟨s, execCmd_of_error hd s⟩

theorem applyEvent_answers (e : Event) (s : State) : ∃ t, applyEvent e s = .next t := by
  cases e with
  | cmd w => exact execCmd_answers w s
  | tick => exact ⟨tickState s, rfl⟩
  | rst => exact ⟨s.applyReset, rfl⟩

/-- Settles O5: a pause holds the state, and every event is answered. -/
theorem stepAlwaysAnswersANextState : Obligations.StepAlwaysAnswersANextState := by
  intro s
  cases hin : s.input with
  | nil => exact ⟨s, step_nil hin⟩
  | cons e rest => rw [step_cons hin]; exact applyEvent_answers e _

/-! ### Out-of-range commands (R191, R193) -/

theorem rangeReason_of_nv_le {cfg : Config} {ch : Nat} (h : cfg.nv ≤ ch) {x y : Nat} {i : Instr}
    (hi : i ∈ [Instr.noteOn ch x y, .noteOff ch x, .setInstrument ch x, .alterVol ch x, .alterPitch ch x]) :
    rangeReason cfg i = some .channelRange := by
  simp only [List.mem_cons, List.not_mem_nil, or_false] at hi
  rcases hi with rfl | rfl | rfl | rfl | rfl <;> exact if_pos h

theorem rangeReason_setInstrument_of_ni_le {cfg : Config} {ch idx : Nat} (hch : ch < cfg.nv)
    (hidx : cfg.ni ≤ idx) : rangeReason cfg (.setInstrument ch idx) = some .instrumentRange :=
  (if_neg hch.not_ge).trans (if_pos hidx)

/-- Settles O15: the reason named is the first check that fails, and a command with a reason changes
nothing by `exec_of_rangeReason`. -/
theorem outOfRangeCommandsAreIgnored : Obligations.OutOfRangeCommandsAreIgnored := by
  intro s ch x y
  refine ⟨fun hch i hi => ?_, fun hch hx => ?_⟩
  · have hr := rangeReason_of_nv_le hch hi
    exact ⟨hr, exec_of_rangeReason hr⟩
  · have hr := rangeReason_setInstrument_of_ni_le hch hx
    exact ⟨hr, exec_of_rangeReason hr⟩

/-! ### What a command writes at most (R197) -/

section
variable {i : Instr} {s t : State} (h : exec i s = .next t)
include h

/-- By `exec_setInput`, the answer is also the answer with the events of `s` put back. -/
theorem exec_input : t.input = s.input := by
  have hback : exec i s = .next (t.setInput s.input) := exec_setInput h s.input
  have ht : t = t.setInput s.input := Host.Outcome.next.inj (h.symm.trans hback)
  rw [ht, setInput_input]

/-- The voices are written by the claim, the scan of NOTE_OFF and maps over the pool, the map by the write
of one entry: each keeps the length of its list. -/
theorem exec_lengths : t.voices.length = s.voices.length ∧ t.map.length = s.map.length := by
  obtain rfl | ⟨ch, note, vel, -, -, rfl⟩ | ⟨ch, note, -, rfl⟩ | ⟨-, rfl⟩ | ⟨ch, idx, -, -, -, rfl⟩ |
    ⟨pct, -, rfl⟩ | ⟨ch, vel, -, rfl⟩ | ⟨ch, bend, -, rfl⟩ | ⟨n, -, rfl⟩ := exec_cases h
  · exact ⟨rfl, rfl⟩
  · exact ⟨List.length_set, rfl⟩
  · exact ⟨releaseFirst_length .., rfl⟩
  · exact ⟨List.length_map .., rfl⟩
  · exact ⟨rfl, List.length_set⟩
  · exact ⟨rfl, rfl⟩
  · exact ⟨List.length_map .., rfl⟩
  · exact ⟨List.length_map .., rfl⟩
  · exact ⟨rfl, rfl⟩

end

/-- Settles O52: `exec_frame`, `exec_input` and `exec_lengths`. -/
theorem commandsWriteOnlyControlState : Obligations.CommandsWriteOnlyControlState := by
  intro i s t h
  obtain ⟨hcfg, hframe, houtput⟩ := exec_frame h
  exact ⟨hframe, houtput, exec_input h, hcfg, exec_lengths h⟩

end Sys2Proof.Machine
end

section
/-! PROOFS. The statement of 70_reset_and_hazards.md: a reset puts the CORE in the reset state (R210, R37). -/

namespace Sys2Proof.Machine

theorem step_rst {s : State} {rest : List Event} (h : s.input = .rst :: rest) :
    step s = .next (s.setInput rest).applyReset := step_cons h

/-- `NV` is at most 256, so it fits MAXN's nine bits and is stored as it is (R37). -/
theorem applyReset_maxn_toNat {s : State} (h : s.cfg.Legal) : s.applyReset.maxn.toNat = s.cfg.nv := by
  obtain ⟨-, hnv, -⟩ := h
  rw [applyReset_maxn, BitVec.toNat_ofNat]
  omega

/-- Settles O1: the answer is the reset state of `step_rst`, whose pool and map are `NV` copies of one
inert voice and of `MAP_RESET`. -/
theorem resetLeavesTheInertState : Obligations.ResetLeavesTheInertState := by
  intro s rest hlegal hin
  refine ⟨_, step_rst hin, rfl, List.length_replicate, fun v hv => ?_, List.length_replicate,
    fun m hm => List.eq_of_mem_replicate hm, rfl, applyReset_maxn_toNat hlegal, rfl⟩
  obtain rfl : v = Voice.inert := List.eq_of_mem_replicate hv
  simp [Voice.inert]

end Sys2Proof.Machine
end
